-- ==== Sys2Proof/Word.lean ====
section
/-! DEFINITION. The word types of the block: 16-bit group words, 8-bit characters and single bits
(spec/00_scope.md R11, R12). Bits are numbered from 0 at the least significant bit. -/

namespace Sys2Proof

/-- A group word, 16 bits (R11, R70). -/
abbrev Word := BitVec 16

/-- A character, or one byte of the read window (R11, R50). Characters are uninterpreted 8-bit codes. -/
abbrev Byte := BitVec 8

/-- A 1-bit register, flag or signal; `true` is 1. -/
abbrev Bit := Bool

end Sys2Proof
end

