-- ==== Sys2Proof/Config.lean ====
section
/-! DEFINITION. What an implementation fixes when the block is built (spec/00_scope.md R10, R22): the pair
that carries RT+ and the two content-type codes. The spec calls each an argument of the model and gives a
default; a `Config` value is carried by the state, and no operation changes it. There are no free values in
this model: the spec leaves no result open (spec/30_encoding.md R90, spec/93_implementation_defined.md I4).
APPLY_LATENCY, the fourth parameter, may vary from group to group and so travels with each clock edge
(`Machine.Edge.extra`). -/

namespace Sys2Proof

/-- The build-time parameters of R10, with the defaults the spec takes. -/
structure Config where
  /-- RTP_TYPE: the group type that carries RT+ (default 11). -/
  rtpType : BitVec 4 := 11
  /-- RTP_VERSION: the version that carries RT+ (default 0, version A). -/
  rtpVersion : Bit := false
  /-- CT_TITLE: the content-type code of Title (default 1). -/
  ctTitle : BitVec 6 := 1
  /-- CT_ARTIST: the content-type code of Artist (default 4). -/
  ctArtist : BitVec 6 := 4
deriving DecidableEq, Repr

/-- The configuration with every parameter at the default of R10: RTP_GROUP = 11A, CT_TITLE = 1, CT_ARTIST = 4. -/
def Config.default : Config := {}

/-- The pair `(type, version)` is this configuration's `RTP_GROUP`. -/
def Config.isRtp (k : Config) (type : BitVec 4) (version : Bit) : Bool :=
  k.rtpType == type && k.rtpVersion == version

end Sys2Proof
end

