-- ==== Sys2Proof/Syntax.lean ====
section
/-! DEFINITION. The syntax of requests (spec/30_encoding.md): a group of four words (R70), the common layout
of block B (R73), the three request formats (R71), one constructor of `Instr` for every row of
spec/opcode_table.json (R83, and R16 for APPLY, RESET, IDLE and READ), and the pseudo-requests of R88. -/

namespace Sys2Proof

/-- A group: the four 16-bit words A, B, C and D of an APPLY, in that order (R70). -/
structure RdsGroup where
  a : Word
  b : Word
  c : Word
  d : Word
deriving DecidableEq, Repr

/-- What a group carries besides its `(type, version)` pair: word A, the rest of block B split by the
common layout of R73, and the words C and D. The group-specific layouts of R77 to R82 are read from `gs`, `c`
and `d` by Machine/Operands.lean. -/
structure Payload where
  /-- PI, word A (R74). -/
  pi : Word
  /-- TP, B[10]. -/
  tp : Bit
  /-- PTY, B[9:5]. -/
  pty : BitVec 5
  /-- The group-specific bits, B[4:0]. -/
  gs : BitVec 5
  c : Word
  d : Word
deriving DecidableEq, Repr

/-- A request in one of the three formats of R71, as the block's ports show it. -/
inductive Request where
  /-- CTRL: `soft_reset : grp_valid`, with the value of `grp_ready` and the words presented at that edge. -/
  | ctrl (bits : BitVec 2) (ready : Bit) (words : RdsGroup)
  /-- GROUP: the four words of an APPLY, from which block B selects the row. -/
  | group (words : RdsGroup)
  /-- RDPORT: `rd_addr`, the operand of a READ. -/
  | rdport (addr : BitVec 9)
deriving DecidableEq, Repr

/-- The instructions: one constructor per row of spec/opcode_table.json. A GROUP row carries the payload
of its group; its `(type, version)` pair is the constructor itself. -/
inductive Instr where
  /-- PS, `GRP_0A` (R114). -/
  | grp0A (x : Payload)
  /-- PS, `GRP_0B` (R115). -/
  | grp0B (x : Payload)
  /-- unsupported under the default RTP_GROUP, `GRP_1A` (R103). -/
  | grp1A (x : Payload)
  /-- unsupported under the default RTP_GROUP, `GRP_1B` (R103). -/
  | grp1B (x : Payload)
  /-- radiotext, `GRP_2A` (R127). -/
  | grp2A (x : Payload)
  /-- radiotext, `GRP_2B` (R128). -/
  | grp2B (x : Payload)
  /-- unsupported under the default RTP_GROUP, `GRP_3A` (R103). -/
  | grp3A (x : Payload)
  /-- unsupported under the default RTP_GROUP, `GRP_3B` (R103). -/
  | grp3B (x : Payload)
  /-- clock time, `GRP_4A` (R140). -/
  | grp4A (x : Payload)
  /-- unsupported under the default RTP_GROUP, `GRP_4B` (R103). -/
  | grp4B (x : Payload)
  /-- unsupported under the default RTP_GROUP, `GRP_5A` (R103). -/
  | grp5A (x : Payload)
  /-- unsupported under the default RTP_GROUP, `GRP_5B` (R103). -/
  | grp5B (x : Payload)
  /-- unsupported under the default RTP_GROUP, `GRP_6A` (R103). -/
  | grp6A (x : Payload)
  /-- unsupported under the default RTP_GROUP, `GRP_6B` (R103). -/
  | grp6B (x : Payload)
  /-- unsupported under the default RTP_GROUP, `GRP_7A` (R103). -/
  | grp7A (x : Payload)
  /-- unsupported under the default RTP_GROUP, `GRP_7B` (R103). -/
  | grp7B (x : Payload)
  /-- unsupported under the default RTP_GROUP, `GRP_8A` (R103). -/
  | grp8A (x : Payload)
  /-- unsupported under the default RTP_GROUP, `GRP_8B` (R103). -/
  | grp8B (x : Payload)
  /-- unsupported under the default RTP_GROUP, `GRP_9A` (R103). -/
  | grp9A (x : Payload)
  /-- unsupported under the default RTP_GROUP, `GRP_9B` (R103). -/
  | grp9B (x : Payload)
  /-- unsupported under the default RTP_GROUP, `GRP_10A` (R103). -/
  | grp10A (x : Payload)
  /-- unsupported under the default RTP_GROUP, `GRP_10B` (R103). -/
  | grp10B (x : Payload)
  /-- RT+ under the default RTP_GROUP, `GRP_11A` (R156). -/
  | grp11A (x : Payload)
  /-- unsupported under the default RTP_GROUP, `GRP_11B` (R103). -/
  | grp11B (x : Payload)
  /-- unsupported under the default RTP_GROUP, `GRP_12A` (R103). -/
  | grp12A (x : Payload)
  /-- unsupported under the default RTP_GROUP, `GRP_12B` (R103). -/
  | grp12B (x : Payload)
  /-- unsupported under the default RTP_GROUP, `GRP_13A` (R103). -/
  | grp13A (x : Payload)
  /-- unsupported under the default RTP_GROUP, `GRP_13B` (R103). -/
  | grp13B (x : Payload)
  /-- unsupported under the default RTP_GROUP, `GRP_14A` (R103). -/
  | grp14A (x : Payload)
  /-- unsupported under the default RTP_GROUP, `GRP_14B` (R103). -/
  | grp14B (x : Payload)
  /-- unsupported under the default RTP_GROUP, `GRP_15A` (R103). -/
  | grp15A (x : Payload)
  /-- unsupported under the default RTP_GROUP, `GRP_15B` (R103). -/
  | grp15B (x : Payload)
  /-- `APPLY`: consume one group (R100). -/
  | apply (g : RdsGroup)
  /-- `RESET` (R165); `some g` is CTRL 0b11, where the presented group `g` is consumed and discarded. -/
  | reset (discarded : Option RdsGroup)
  /-- `IDLE` (R169); `some g` is CTRL 0b01 while `grp_ready` is 0, where the group `g` waits. -/
  | idle (waiting : Option RdsGroup)
  /-- `READ`: one byte of the read window (R167). -/
  | read (addr : BitVec 9)
deriving DecidableEq, Repr

/-- The pseudo-requests of R88, with the operands as the notation writes them. `hdr` is given by its two
parts TP and PTY, and a quoted character by its code. -/
inductive Pseudo where
  /-- `PS0A pi, hdr, ta, ms, di, addr, "xy"`. -/
  | ps0A (pi tp pty ta ms di addr x y : Nat)
  /-- `PS0B pi, hdr, ta, ms, di, addr, "xy"`. -/
  | ps0B (pi tp pty ta ms di addr x y : Nat)
  /-- `RT2A pi, hdr, flip, addr, "wxyz"`. -/
  | rt2A (pi tp pty flip addr w x y z : Nat)
  /-- `RT2B pi, hdr, flip, addr, "xy"`. -/
  | rt2B (pi tp pty flip addr x y : Nat)
  /-- `CT4A pi, hdr, mjd, hour, minute, osign, omag`. -/
  | ct4A (pi tp pty mjd hour minute osign omag : Nat)
  /-- `RTP pi, hdr, run, ct1, s1, l1, ct2, s2, l2`. -/
  | rtp (pi tp pty run ct1 s1 l1 ct2 s2 l2 : Nat)
deriving DecidableEq, Repr

end Sys2Proof
end

