-- ==== Sys2Proof/WellFormed.lean ====
section
/-! DEFINITION. Well-formedness: the legal configurations of spec/00_scope.md R10 (spec/92_eei_decisions.md
D38), the operand ranges of the pseudo-requests (spec/30_encoding.md R88), and that of an instruction, which
its operand types already give in full (R90: every value of every request names an operation). -/

namespace Sys2Proof

/-- The five pairs with a fixed decoder: 0A, 0B, 2A, 2B and 4A (R10, R102). -/
def isFixedPair (type : BitVec 4) (version : Bit) : Bool :=
  (type == 0) || (type == 2) || (type == 4 && version == false)

/-- A legal configuration: RTP_GROUP is none of the five fixed pairs, and CT_TITLE and CT_ARTIST differ
(R10, D38). -/
def Config.wf (k : Config) : Bool :=
  !isFixedPair k.rtpType k.rtpVersion && k.ctTitle != k.ctArtist

/-- Well-formedness of an instruction. Every operand is a bit field of exactly the width of its port, so
there is nothing left to check: no encoding is reserved or illegal (R84, R90). -/
def Instr.wf (i : Instr) : Bool :=
  match i with
  | .grp0A _ => true
  | .grp0B _ => true
  | .grp1A _ => true
  | .grp1B _ => true
  | .grp2A _ => true
  | .grp2B _ => true
  | .grp3A _ => true
  | .grp3B _ => true
  | .grp4A _ => true
  | .grp4B _ => true
  | .grp5A _ => true
  | .grp5B _ => true
  | .grp6A _ => true
  | .grp6B _ => true
  | .grp7A _ => true
  | .grp7B _ => true
  | .grp8A _ => true
  | .grp8B _ => true
  | .grp9A _ => true
  | .grp9B _ => true
  | .grp10A _ => true
  | .grp10B _ => true
  | .grp11A _ => true
  | .grp11B _ => true
  | .grp12A _ => true
  | .grp12B _ => true
  | .grp13A _ => true
  | .grp13B _ => true
  | .grp14A _ => true
  | .grp14B _ => true
  | .grp15A _ => true
  | .grp15B _ => true
  | .apply _ => true
  | .reset _ => true
  | .idle _ => true
  | .read _ => true

/-- The operand ranges of the parts common to every pseudo-request: PI is a word, TP a bit, PTY five bits. -/
def headerRanges (pi tp pty : Nat) : Bool :=
  decide (pi < 0x10000) && decide (tp < 2) && decide (pty < 32)

/-- The operand ranges of R88: `addr` 0..3 for PS and 0..15 for RT, `mjd` < 2^17, `hour` < 32,
`minute` < 64, `omag` < 32, `ct1`, `ct2`, `s1`, `s2`, `l1` < 64 and `l2` < 32. Flags are one bit and
characters 8-bit codes. -/
def Pseudo.wf (p : Pseudo) : Bool :=
  match p with
  | .ps0A pi tp pty ta ms di addr x y =>
    headerRanges pi tp pty && decide (ta < 2) && decide (ms < 2) && decide (di < 2) && decide (addr < 4)
      && decide (x < 256) && decide (y < 256)
  | .ps0B pi tp pty ta ms di addr x y =>
    headerRanges pi tp pty && decide (ta < 2) && decide (ms < 2) && decide (di < 2) && decide (addr < 4)
      && decide (x < 256) && decide (y < 256)
  | .rt2A pi tp pty flip addr w x y z =>
    headerRanges pi tp pty && decide (flip < 2) && decide (addr < 16) && decide (w < 256) && decide (x < 256)
      && decide (y < 256) && decide (z < 256)
  | .rt2B pi tp pty flip addr x y =>
    headerRanges pi tp pty && decide (flip < 2) && decide (addr < 16) && decide (x < 256) && decide (y < 256)
  | .ct4A pi tp pty mjd hour minute osign omag =>
    headerRanges pi tp pty && decide (mjd < 0x20000) && decide (hour < 32) && decide (minute < 64)
      && decide (osign < 2) && decide (omag < 32)
  | .rtp pi tp pty run ct1 s1 l1 ct2 s2 l2 =>
    headerRanges pi tp pty && decide (run < 2) && decide (ct1 < 64) && decide (s1 < 64) && decide (l1 < 64)
      && decide (ct2 < 64) && decide (s2 < 64) && decide (l2 < 32)

end Sys2Proof
end

