-- ==== Sys2Proof/Decode.lean ====
section
/-! DEFINITION. Decoding and encoding of requests (spec/30_encoding.md). Decoding is total: every CTRL value,
every group and every `rd_addr` names exactly one operation (R90), so the decoder of a request has no refusal;
only the framing of the host's numbered words (`decodeTableWord`) refuses a width that no format has. -/

namespace Sys2Proof

/-! ### Block B (R73) -/

/-- `type`, B[15:12]. -/
def typeOf (b : Word) : BitVec 4 := b.extractLsb' 12 4

/-- `version`, B[11]; false is version A. -/
def versionOf (b : Word) : Bit := b.getLsbD 11

/-- `tp`, B[10]. -/
def tpOf (b : Word) : Bit := b.getLsbD 10

/-- `pty`, B[9:5]. -/
def ptyOf (b : Word) : BitVec 5 := b.extractLsb' 5 5

/-- `gs`, B[4:0]. -/
def gsOf (b : Word) : BitVec 5 := b.extractLsb' 0 5

/-- The payload of a group: everything but its pair (R70, R73, R74). -/
def payloadOf (g : RdsGroup) : Payload :=
  { pi := g.a, tp := tpOf g.b, pty := ptyOf g.b, gs := gsOf g.b, c := g.c, d := g.d }

/-! ### The opcode map (R83) -/

/-- The GROUP row of a pair, by the five bits B[15], B[14], B[13], B[12] and B[11] that select it (R75, R83). -/
def groupRow (type : BitVec 4) (version : Bit) (x : Payload) : Instr :=
  match type.getLsbD 3, type.getLsbD 2, type.getLsbD 1, type.getLsbD 0, version with
  | false, false, false, false, false => .grp0A x
  | false, false, false, false, true => .grp0B x
  | false, false, false, true, false => .grp1A x
  | false, false, false, true, true => .grp1B x
  | false, false, true, false, false => .grp2A x
  | false, false, true, false, true => .grp2B x
  | false, false, true, true, false => .grp3A x
  | false, false, true, true, true => .grp3B x
  | false, true, false, false, false => .grp4A x
  | false, true, false, false, true => .grp4B x
  | false, true, false, true, false => .grp5A x
  | false, true, false, true, true => .grp5B x
  | false, true, true, false, false => .grp6A x
  | false, true, true, false, true => .grp6B x
  | false, true, true, true, false => .grp7A x
  | false, true, true, true, true => .grp7B x
  | true, false, false, false, false => .grp8A x
  | true, false, false, false, true => .grp8B x
  | true, false, false, true, false => .grp9A x
  | true, false, false, true, true => .grp9B x
  | true, false, true, false, false => .grp10A x
  | true, false, true, false, true => .grp10B x
  | true, false, true, true, false => .grp11A x
  | true, false, true, true, true => .grp11B x
  | true, true, false, false, false => .grp12A x
  | true, true, false, false, true => .grp12B x
  | true, true, false, true, false => .grp13A x
  | true, true, false, true, true => .grp13B x
  | true, true, true, false, false => .grp14A x
  | true, true, true, false, true => .grp14B x
  | true, true, true, true, false => .grp15A x
  | true, true, true, true, true => .grp15B x

/-- The instruction of a group: its row, with the rest of its words. No bit but B[15:11] takes part in choosing
the row (R75). -/
def decodeGroup (g : RdsGroup) : Instr := groupRow (typeOf g.b) (versionOf g.b) (payloadOf g)

/-- The operation a request names: CTRL by R72, GROUP by R83, RDPORT by R89. -/
def decode (r : Request) : Instr :=
  match r with
  | .ctrl bits ready g =>
    match bits.getLsbD 1, bits.getLsbD 0, ready with
    | false, false, _ => .idle none
    | false, true, true => .apply g
    | false, true, false => .idle (some g)
    | true, false, _ => .reset none
    | true, true, _ => .reset (some g)
  | .group g => decodeGroup g
  | .rdport addr => .read addr

/-! ### The encoder, from the same tables -/

/-- Block B of a pair and a payload, field by field as R73 lays it out. -/
def blockB (type : BitVec 4) (version : Bit) (x : Payload) : Word :=
  type ++ BitVec.ofBool version ++ BitVec.ofBool x.tp ++ x.pty ++ x.gs

/-- The four words of a pair and a payload. -/
def groupOf (type : BitVec 4) (version : Bit) (x : Payload) : RdsGroup :=
  { a := x.pi, b := blockB type version x, c := x.c, d := x.d }

/-- The words a CTRL request shows when it presents no group; no rule reads them. -/
def noWords : RdsGroup := { a := 0, b := 0, c := 0, d := 0 }

/-- The request that names an instruction. -/
def encode (i : Instr) : Request :=
  match i with
  | .grp0A x => .group (groupOf 0 false x)
  | .grp0B x => .group (groupOf 0 true x)
  | .grp1A x => .group (groupOf 1 false x)
  | .grp1B x => .group (groupOf 1 true x)
  | .grp2A x => .group (groupOf 2 false x)
  | .grp2B x => .group (groupOf 2 true x)
  | .grp3A x => .group (groupOf 3 false x)
  | .grp3B x => .group (groupOf 3 true x)
  | .grp4A x => .group (groupOf 4 false x)
  | .grp4B x => .group (groupOf 4 true x)
  | .grp5A x => .group (groupOf 5 false x)
  | .grp5B x => .group (groupOf 5 true x)
  | .grp6A x => .group (groupOf 6 false x)
  | .grp6B x => .group (groupOf 6 true x)
  | .grp7A x => .group (groupOf 7 false x)
  | .grp7B x => .group (groupOf 7 true x)
  | .grp8A x => .group (groupOf 8 false x)
  | .grp8B x => .group (groupOf 8 true x)
  | .grp9A x => .group (groupOf 9 false x)
  | .grp9B x => .group (groupOf 9 true x)
  | .grp10A x => .group (groupOf 10 false x)
  | .grp10B x => .group (groupOf 10 true x)
  | .grp11A x => .group (groupOf 11 false x)
  | .grp11B x => .group (groupOf 11 true x)
  | .grp12A x => .group (groupOf 12 false x)
  | .grp12B x => .group (groupOf 12 true x)
  | .grp13A x => .group (groupOf 13 false x)
  | .grp13B x => .group (groupOf 13 true x)
  | .grp14A x => .group (groupOf 14 false x)
  | .grp14B x => .group (groupOf 14 true x)
  | .grp15A x => .group (groupOf 15 false x)
  | .grp15B x => .group (groupOf 15 true x)
  | .apply g => .ctrl 0b01 true g
  | .reset none => .ctrl 0b10 true noWords
  | .reset (some g) => .ctrl 0b11 true g
  | .idle none => .ctrl 0b00 true noWords
  | .idle (some g) => .ctrl 0b01 false g
  | .read addr => .rdport addr

/-! ### The opcode table as data -/

/-- The request format of an opcode-table row (R71). -/
inductive Format where
  | group
  | ctrl
  | rdport
deriving DecidableEq, Repr

/-- A row of spec/opcode_table.json: its mnemonic, its format, and the mask and match that select it. -/
structure OpcodeRow where
  mnemonic : String
  format : Format
  mask : Word
  value : Word
deriving DecidableEq, Repr

/-- The row of an instruction in spec/opcode_table.json. -/
def rowOf (i : Instr) : OpcodeRow :=
  match i with
  | .grp0A _ => ⟨"GRP_0A", .group, 0xF800, 0x0000⟩
  | .grp0B _ => ⟨"GRP_0B", .group, 0xF800, 0x0800⟩
  | .grp1A _ => ⟨"GRP_1A", .group, 0xF800, 0x1000⟩
  | .grp1B _ => ⟨"GRP_1B", .group, 0xF800, 0x1800⟩
  | .grp2A _ => ⟨"GRP_2A", .group, 0xF800, 0x2000⟩
  | .grp2B _ => ⟨"GRP_2B", .group, 0xF800, 0x2800⟩
  | .grp3A _ => ⟨"GRP_3A", .group, 0xF800, 0x3000⟩
  | .grp3B _ => ⟨"GRP_3B", .group, 0xF800, 0x3800⟩
  | .grp4A _ => ⟨"GRP_4A", .group, 0xF800, 0x4000⟩
  | .grp4B _ => ⟨"GRP_4B", .group, 0xF800, 0x4800⟩
  | .grp5A _ => ⟨"GRP_5A", .group, 0xF800, 0x5000⟩
  | .grp5B _ => ⟨"GRP_5B", .group, 0xF800, 0x5800⟩
  | .grp6A _ => ⟨"GRP_6A", .group, 0xF800, 0x6000⟩
  | .grp6B _ => ⟨"GRP_6B", .group, 0xF800, 0x6800⟩
  | .grp7A _ => ⟨"GRP_7A", .group, 0xF800, 0x7000⟩
  | .grp7B _ => ⟨"GRP_7B", .group, 0xF800, 0x7800⟩
  | .grp8A _ => ⟨"GRP_8A", .group, 0xF800, 0x8000⟩
  | .grp8B _ => ⟨"GRP_8B", .group, 0xF800, 0x8800⟩
  | .grp9A _ => ⟨"GRP_9A", .group, 0xF800, 0x9000⟩
  | .grp9B _ => ⟨"GRP_9B", .group, 0xF800, 0x9800⟩
  | .grp10A _ => ⟨"GRP_10A", .group, 0xF800, 0xA000⟩
  | .grp10B _ => ⟨"GRP_10B", .group, 0xF800, 0xA800⟩
  | .grp11A _ => ⟨"GRP_11A", .group, 0xF800, 0xB000⟩
  | .grp11B _ => ⟨"GRP_11B", .group, 0xF800, 0xB800⟩
  | .grp12A _ => ⟨"GRP_12A", .group, 0xF800, 0xC000⟩
  | .grp12B _ => ⟨"GRP_12B", .group, 0xF800, 0xC800⟩
  | .grp13A _ => ⟨"GRP_13A", .group, 0xF800, 0xD000⟩
  | .grp13B _ => ⟨"GRP_13B", .group, 0xF800, 0xD800⟩
  | .grp14A _ => ⟨"GRP_14A", .group, 0xF800, 0xE000⟩
  | .grp14B _ => ⟨"GRP_14B", .group, 0xF800, 0xE800⟩
  | .grp15A _ => ⟨"GRP_15A", .group, 0xF800, 0xF000⟩
  | .grp15B _ => ⟨"GRP_15B", .group, 0xF800, 0xF800⟩
  | .apply _ => ⟨"APPLY", .ctrl, 0b11, 0b01⟩
  | .reset _ => ⟨"RESET", .ctrl, 0b10, 0b10⟩
  | .idle _ => ⟨"IDLE", .ctrl, 0b11, 0b00⟩
  | .read _ => ⟨"READ", .rdport, 0x000, 0x000⟩

/-- The bits of a request that a row's mask and match apply to: block B of a group, the two CTRL bits, or
`rd_addr`. -/
def selectorOf (r : Request) : Format × Word :=
  match r with
  | .ctrl bits _ _ => (.ctrl, bits.setWidth 16)
  | .group g => (.group, g.b)
  | .rdport addr => (.rdport, addr.setWidth 16)

/-- A request is of a row's format and carries the row's fixed bits. -/
def OpcodeRow.selects (row : OpcodeRow) (r : Request) : Bool :=
  (selectorOf r).1 == row.format && ((selectorOf r).2 &&& row.mask) == row.value

/-! ### Pseudo-requests (R88) -/

/-- `hdr = (tp << 10) + (pty << 5)`. -/
def hdrOf (tp pty : Nat) : Nat := (tp <<< 10) + (pty <<< 5)

/-- A 16-bit group word from the number an expansion computes. -/
def wordOf (n : Nat) : Word := BitVec.ofNat 16 n

/-- The one GROUP line a pseudo-request expands to, by the expansions of R88. The RT+ row takes its pair
from the configuration. -/
def expand (k : Config) (p : Pseudo) : RdsGroup :=
  match p with
  | .ps0A pi tp pty ta ms di addr x y =>
    { a := wordOf pi, b := wordOf (0x0000 + hdrOf tp pty + (ta <<< 4) + (ms <<< 3) + (di <<< 2) + addr),
      c := wordOf 0x0000, d := wordOf ((x <<< 8) + y) }
  | .ps0B pi tp pty ta ms di addr x y =>
    { a := wordOf pi, b := wordOf (0x0800 + hdrOf tp pty + (ta <<< 4) + (ms <<< 3) + (di <<< 2) + addr),
      c := wordOf pi, d := wordOf ((x <<< 8) + y) }
  | .rt2A pi tp pty flip addr w x y z =>
    { a := wordOf pi, b := wordOf (0x2000 + hdrOf tp pty + (flip <<< 4) + addr),
      c := wordOf ((w <<< 8) + x), d := wordOf ((y <<< 8) + z) }
  | .rt2B pi tp pty flip addr x y =>
    { a := wordOf pi, b := wordOf (0x2800 + hdrOf tp pty + (flip <<< 4) + addr),
      c := wordOf pi, d := wordOf ((x <<< 8) + y) }
  | .ct4A pi tp pty mjd hour minute osign omag =>
    { a := wordOf pi, b := wordOf (0x4000 + hdrOf tp pty + (mjd >>> 15)),
      c := wordOf (((mjd &&& 0x7FFF) <<< 1) + (hour >>> 4)),
      d := wordOf (((hour &&& 0xF) <<< 12) + (minute <<< 6) + (osign <<< 5) + omag) }
  | .rtp pi tp pty run ct1 s1 l1 ct2 s2 l2 =>
    { a := wordOf pi,
      b := wordOf ((k.rtpType.toNat <<< 12) + (k.rtpVersion.toNat <<< 11) + hdrOf tp pty + (run <<< 4) + (ct1 >>> 3)),
      c := wordOf (((ct1 &&& 7) <<< 13) + (s1 <<< 7) + (l1 <<< 1) + (ct2 >>> 5)),
      d := wordOf (((ct2 &&& 0x1F) <<< 11) + (s2 <<< 5) + l2) }

/-! ### Words numbered as the opcode table numbers them -/

/-- The request whose bits are `w`, `nbits` wide, as spec/opcode_table.json numbers them.
A width of 1 to 8 is CTRL (two bits, presented with `grp_ready` = 1 and words of zeros); 16 to 64 is GROUP,
with block B in bits 15..0 (the table's mask and match apply to it) and A, C and D in the bits above, in that
order; 9 to 15 is RDPORT, and so is 0, since the READ row has no fixed bit.
DESIGN CHOICE (log entry 5): the spec gives a request no byte layout. -/
def requestOfWord (nbits w : Nat) : Option Request :=
  if nbits = 0 ∨ (9 ≤ nbits ∧ nbits ≤ 15) then
    if w < 512 then some (.rdport (BitVec.ofNat 9 w)) else none
  else if nbits ≤ 8 then
    if w < 4 then some (.ctrl (BitVec.ofNat 2 w) true noWords) else none
  else if nbits ≤ 64 then
    if w < 2 ^ 64 then
      some (.group { a := BitVec.ofNat 16 (w / 2 ^ 16), b := BitVec.ofNat 16 w,
                     c := BitVec.ofNat 16 (w / 2 ^ 32), d := BitVec.ofNat 16 (w / 2 ^ 48) })
    else none
  else none

/-- The instruction the decoder reads from a word numbered as the opcode table numbers it. -/
def decodeTableWord (nbits w : Nat) : Option Instr := (requestOfWord nbits w).map decode

end Sys2Proof
end

