-- ==== Sys2Proof/Machine/State.lean ====
section
/-! DEFINITION. The state of the block (spec/10_state.md) as plain data: the committed registers, the scratch
registers, an APPLY in progress, and the inputs the host has still to present. Each register keeps the name
the spec gives it in its docstring; the window address stands in spec/10_state.md R47. -/

namespace Sys2Proof.Machine

/-- The faults: none. The block raises no exception and has no trap, fault or error output (R175), and every
operation has a defined result on every input (R90, I4), so no operation raises a fault. -/
inductive Fault where
deriving DecidableEq, Repr

/-- The refusals. -/
inductive Refusal where
  /-- An instruction whose meaning is not written yet; raised by `exec` alone, by name. Safe: it stops where the
  block goes on. No arm of `exec` raises it in this model. -/
  | notModelled (mnemonic : String)
  /-- The configuration is none of those R10 allows, and "a model refuses any other configuration" (D38).
  Raised by `step` alone. Safe: no claim is made of a block that the spec does not describe. -/
  | illegalConfiguration
deriving DecidableEq, Repr

/-! ### Committed registers -/

/-- The header registers, written on every APPLY (R25). -/
structure Header where
  /-- `PI`, 16 bits: the station identification code. -/
  pi : Word
  /-- `TP`, 1 bit: the traffic-program flag. -/
  tp : Bit
  /-- `PTY`, 5 bits: the program-type code. -/
  pty : BitVec 5
deriving DecidableEq, Repr

/-- The type-0 flag registers, written on every 0A and 0B group (R26). -/
structure TypeZeroFlags where
  /-- `TA`, 1 bit: the traffic-announcement flag. -/
  ta : Bit
  /-- `MS`, 1 bit: the music/speech flag. -/
  ms : Bit
deriving DecidableEq, Repr

/-- The committed program-service name and what is committed with it (R27, R28, R29). -/
structure StationName where
  /-- `PS[0..7]`: the program-service name. -/
  ps : Vector Byte 8
  /-- `DI`, 4 bits: the decoder-identification bits; bit `3 - a` comes from address `a`. -/
  di : BitVec 4
  /-- `PS_VALID`: a PS window has committed. -/
  valid : Bit
deriving DecidableEq, Repr

/-- The committed radiotext, two variants (R28, R30, R31). -/
structure RadioText where
  /-- `RT[0][0..63]`. -/
  rt0 : Vector Byte 64
  /-- `RT[1][0..63]`. -/
  rt1 : Vector Byte 64
  /-- `RT_VALID[0]`. -/
  valid0 : Bit
  /-- `RT_VALID[1]`. -/
  valid1 : Bit
  /-- `RT_FLAG`: the flip value of the most recent radiotext commit. -/
  flag : Bit
deriving DecidableEq, Repr

/-- The clock-time registers, written together (R28, R32). -/
structure ClockTime where
  /-- `CT_VALID`: a sample has been accepted. -/
  valid : Bit
  /-- `CT_YEAR`, 16 bits, unsigned. -/
  year : Word
  /-- `CT_MONTH`, 4 bits. -/
  month : BitVec 4
  /-- `CT_DAY`, 5 bits. -/
  day : BitVec 5
  /-- `CT_HOUR`, 5 bits. -/
  hour : BitVec 5
  /-- `CT_MINUTE`, 6 bits. -/
  minute : BitVec 6
  /-- `CT_OFFSET`, 6 bits, two's complement, in half-hours. -/
  offset : BitVec 6
deriving DecidableEq, Repr

/-- An RT+ tag register `TAG[k]` (R33). -/
structure Tag where
  /-- `CTYPE`, 6 bits: the content type. -/
  ctype : BitVec 6
  /-- `START`, 6 bits: the start offset. -/
  start : BitVec 6
  /-- `LEN`, 6 bits: the length in bytes. -/
  len : BitVec 6
deriving DecidableEq, Repr

/-- The committed registers: what the read window shows (R20, R47). -/
structure Committed where
  header : Header
  flags : TypeZeroFlags
  name : StationName
  text : RadioText
  clock : ClockTime
  /-- `TAG[0]`. -/
  tag0 : Tag
  /-- `TAG[1]`. -/
  tag1 : Tag
  /-- `TITLE[0..63]` (R34). -/
  title : Vector Byte 64
  /-- `ARTIST[0..63]` (R34). -/
  artist : Vector Byte 64
deriving DecidableEq, Repr

/-! ### Scratch registers -/

/-- The scratch registers: in no address space, never externally visible (R20, R60). -/
structure Scratch where
  /-- `PS_SCR[0..7]`: the program-service name in progress (R35). -/
  ps : Vector Byte 8
  /-- `DI_SCR`, 4 bits: the decoder-identification accumulator (R36). -/
  di : BitVec 4
  /-- `RT_SCR[0..63]`: the radiotext in progress (R37). -/
  rt : Vector Byte 64
  /-- `RT_SCR_FLAG`: the flip flag of the last type-2 group; no rule reads it (R38). -/
  rtFlag : Bit
deriving DecidableEq, Repr

/-! ### The interface -/

/-- An APPLY accepted but not yet visible (R41): the group, and how many further clock cycles pass before
the edge at which its effects appear. -/
structure InFlight where
  group : RdsGroup
  left : Nat
deriving DecidableEq, Repr

/-- The signals sampled at one rising edge of `clk` (R40). -/
structure Edge where
  /-- `rst_n`: power-up reset, active low. -/
  rstN : Bit
  /-- `soft_reset`: request for RESET. -/
  softReset : Bit
  /-- `grp_valid`: a group is presented. -/
  grpValid : Bit
  /-- `grp_a`, `grp_b`, `grp_c`, `grp_d`. -/
  words : RdsGroup
  /-- `APPLY_LATENCY - 1` for a group accepted at this edge: the implementation's choice, which may vary
  between groups (R10), so a statement about the block is made for every value. Log entry 2. -/
  extra : Nat
deriving DecidableEq, Repr

/-- What the host does next, in the one total order of R61: a clock edge, or a READ taken between edges
(a READ takes no request slot, R44). -/
inductive Input where
  | edge (e : Edge)
  | read (addr : BitVec 9)
deriving DecidableEq, Repr

/-- The state. `committed` and `scratch` are the registers of R47; `inFlight` is the APPLY in progress of
R41; the other three are the model's own fields: the value the host last put on the `rd_addr` port, the inputs
it has still to present, and the build-time configuration of R10. -/
structure State where
  committed : Committed
  scratch : Scratch
  inFlight : Option InFlight
  /-- The value on the `rd_addr` port; `rd_data` follows from it and `committed` (R44). -/
  rdAddr : BitVec 9
  /-- The host's inputs still to come, first one next; none left means an idle host. -/
  inputs : List Input
  cfg : Config
deriving DecidableEq, Repr

/-- Every committed register at its reset value, which is 0 for each (R47). -/
def Committed.zero : Committed :=
  { header := { pi := 0, tp := false, pty := 0 }
    flags := { ta := false, ms := false }
    name := { ps := Vector.replicate 8 0, di := 0, valid := false }
    text := { rt0 := Vector.replicate 64 0, rt1 := Vector.replicate 64 0, valid0 := false, valid1 := false,
              flag := false }
    clock := { valid := false, year := 0, month := 0, day := 0, hour := 0, minute := 0, offset := 0 }
    tag0 := { ctype := 0, start := 0, len := 0 }
    tag1 := { ctype := 0, start := 0, len := 0 }
    title := Vector.replicate 64 0
    artist := Vector.replicate 64 0 }

/-- Every scratch register at its reset value, which is 0 for each (R47). -/
def Scratch.zero : Scratch :=
  { ps := Vector.replicate 8 0, di := 0, rt := Vector.replicate 64 0, rtFlag := false }

/-- The state right after power-up (R43, R47, R190): every register 0, no APPLY in progress. The model's own
fields stand at values of its choice: `rd_addr` 0, no input yet, the default configuration (log entries 3, 4). -/
def State.reset : State :=
  { committed := Committed.zero, scratch := Scratch.zero, inFlight := none, rdAddr := 0, inputs := [],
    cfg := Config.default }

end Sys2Proof.Machine
end

