-- ==== Sys2Proof/Machine/Flags.lean ====
section
/-! DEFINITION. The FLAGS byte of the read window, address 0x003 (spec/20_memory.md R51). The flags themselves
are written by the operations of Machine/Ops.lean that the decoders call. -/

namespace Sys2Proof.Machine

/-- FLAGS, bit 7 down to bit 0: CT_VALID, RT_FLAG, RT_VALID[1], RT_VALID[0], PS_VALID, MS, TA, TP (R51). -/
def flagsByte (m : Committed) : Byte :=
  BitVec.ofBool m.clock.valid ++ BitVec.ofBool m.text.flag ++ BitVec.ofBool m.text.valid1
    ++ BitVec.ofBool m.text.valid0 ++ BitVec.ofBool m.name.valid ++ BitVec.ofBool m.flags.ms
    ++ BitVec.ofBool m.flags.ta ++ BitVec.ofBool m.header.tp

end Sys2Proof.Machine
end

