-- ==== Sys2Proof/Machine/Operands.lean ====
section
/-! DEFINITION. The operand forms: the group-specific layouts of spec/30_encoding.md R76 to R82, read from
`gs` = B[4:0] and the words C and D of a payload. -/

namespace Sys2Proof.Machine

/-! ### Characters in a word (R76) -/

/-- The character at the lower buffer offset: bits 15:8. -/
def firstChar (w : Word) : Byte := w.extractLsb' 8 8

/-- The next character: bits 7:0. -/
def secondChar (w : Word) : Byte := w.extractLsb' 0 8

/-! ### Type 0, the program-service name (R77) -/

/-- The fields of a 0A or 0B group; word C is not read. -/
structure PsFields where
  ta : Bit
  ms : Bit
  di : Bit
  addr : BitVec 2
  c0 : Byte
  c1 : Byte
deriving DecidableEq, Repr

/-- `ta` = B[4], `ms` = B[3], `di` = B[2], `addr` = B[1:0], characters in D (R77, R110). -/
def psFields (x : Payload) : PsFields :=
  { ta := x.gs.getLsbD 4, ms := x.gs.getLsbD 3, di := x.gs.getLsbD 2, addr := x.gs.extractLsb' 0 2,
    c0 := firstChar x.d, c1 := secondChar x.d }

/-! ### Type 2, the radiotext (R78) -/

/-- A radiotext segment: the flip flag, the offset of its first character, and the characters in order. -/
structure RtFields where
  flip : Bit
  off : Nat
  seg : List Byte
deriving DecidableEq, Repr

/-- `flip` = B[4] of a type-2 group. -/
def flipOf (x : Payload) : Bit := x.gs.getLsbD 4

/-- `addr` = B[3:0] of a type-2 group, in both versions (R78, C4). -/
def rtAddrOf (x : Payload) : BitVec 4 := x.gs.extractLsb' 0 4

/-- 2A: four characters from C and D at offset 4 * addr (R121). -/
def rtFields2A (x : Payload) : RtFields :=
  { flip := flipOf x, off := 4 * (rtAddrOf x).toNat,
    seg := [firstChar x.c, secondChar x.c, firstChar x.d, secondChar x.d] }

/-- 2B: two characters from D at offset 2 * addr; word C is not read (R122). -/
def rtFields2B (x : Payload) : RtFields :=
  { flip := flipOf x, off := 2 * (rtAddrOf x).toNat, seg := [firstChar x.d, secondChar x.d] }

/-! ### Type 4A, the clock time (R80, R81) -/

/-- The fields of a 4A group; B[4:2] is not read. -/
structure CtFields where
  mjd : BitVec 17
  hour : BitVec 5
  minute : BitVec 6
  osign : Bit
  omag : BitVec 5
deriving DecidableEq, Repr

/-- `mjd` = B[1:0] : C[15:1], `hour` = C[0] : D[15:12], `minute` = D[11:6], `osign` = D[5],
`omag` = D[4:0] (R135). -/
def ctFields (x : Payload) : CtFields :=
  { mjd := x.gs.extractLsb' 0 2 ++ x.c.extractLsb' 1 15
    hour := x.c.extractLsb' 0 1 ++ x.d.extractLsb' 12 4
    minute := x.d.extractLsb' 6 6
    osign := x.d.getLsbD 5
    omag := x.d.extractLsb' 0 5 }

/-! ### The RT+ group (R82) -/

/-- The fields of an RT+ group; B[3] is not read. -/
structure RtpFields where
  running : Bit
  tag0 : Tag
  tag1 : Tag
deriving DecidableEq, Repr

/-- `running` = B[4]; tag 0 is B[2:0] : C[15:13], C[12:7], C[6:1]; tag 1 is C[0] : D[15:11], D[10:5] and
D[4:0] zero-extended to six bits (R150, R151). -/
def rtpFields (x : Payload) : RtpFields :=
  { running := x.gs.getLsbD 4
    tag0 := { ctype := x.gs.extractLsb' 0 3 ++ x.c.extractLsb' 13 3
              start := x.c.extractLsb' 7 6
              len := x.c.extractLsb' 1 6 }
    tag1 := { ctype := x.c.extractLsb' 0 1 ++ x.d.extractLsb' 11 5
              start := x.d.extractLsb' 5 6
              len := (x.d.extractLsb' 0 5).setWidth 6 } }

end Sys2Proof.Machine
end

