-- ==== Sys2Proof/Machine/Ops.lean ====
section
/-! DEFINITION. The named operations on the state: the read window (spec/20_memory.md R50), and one operation
for each set of registers that a rule writes together (the "written by" column of spec/10_state.md R47). There
is no operation that takes an exception: none exists (spec/60_exceptions.md R175, R181). -/

namespace Sys2Proof.Machine

/-! ### Byte arrays (R13) -/

/-- `X[i]`; 0x00 past the end of the array, where no rule reads (R60). -/
def byteAt {n : Nat} (v : Vector Byte n) (i : Nat) : Byte := (v[i]?).getD 0

/-- `X[i] <- b`; nothing past the end of the array, where no rule writes (R60). -/
def putByte {n : Nat} (v : Vector Byte n) (i : Nat) (b : Byte) : Vector Byte n := v.setIfInBounds i b

/-- `RT[f]`, the variant a flip value names (R30). -/
def RadioText.bank (t : RadioText) (f : Bit) : Vector Byte 64 := if f then t.rt1 else t.rt0

/-- `RT_VALID[f]`. -/
def RadioText.validOf (t : RadioText) (f : Bit) : Bit := if f then t.valid1 else t.valid0

/-! ### The read window (R50, R51, R59) -/

/-- `MemRead(addr, 1)`: the byte of committed state at a window address, by the map of R50. -/
def window (m : Committed) (addr : BitVec 9) : Byte :=
  let a := addr.toNat
  if a = 0x000 then m.header.pi.extractLsb' 0 8
  else if a = 0x001 then m.header.pi.extractLsb' 8 8
  else if a = 0x002 then m.header.pty.setWidth 8
  else if a = 0x003 then flagsByte m
  else if a = 0x004 then m.name.di.setWidth 8
  else if a = 0x005 then m.clock.month.setWidth 8
  else if a = 0x006 then m.clock.day.setWidth 8
  else if a = 0x007 then m.clock.hour.setWidth 8
  else if a = 0x008 then m.clock.minute.setWidth 8
  else if a = 0x009 then m.clock.offset.signExtend 8
  else if a = 0x00A then m.clock.year.extractLsb' 0 8
  else if a = 0x00B then m.clock.year.extractLsb' 8 8
  else if a = 0x00C then m.tag0.ctype.setWidth 8
  else if a = 0x00D then m.tag0.start.setWidth 8
  else if a = 0x00E then m.tag0.len.setWidth 8
  else if a = 0x010 then m.tag1.ctype.setWidth 8
  else if a = 0x011 then m.tag1.start.setWidth 8
  else if a = 0x012 then m.tag1.len.setWidth 8
  else if 0x018 ≤ a ∧ a < 0x020 then byteAt m.name.ps (a - 0x018)
  else if 0x040 ≤ a ∧ a < 0x080 then byteAt m.text.rt0 (a - 0x040)
  else if 0x080 ≤ a ∧ a < 0x0C0 then byteAt m.text.rt1 (a - 0x080)
  else if 0x0C0 ≤ a ∧ a < 0x100 then byteAt m.title (a - 0x0C0)
  else if 0x100 ≤ a ∧ a < 0x140 then byteAt m.artist (a - 0x100)
  else 0x00

/-- `rd_data`: the window byte at `rd_addr`, at all times (R40, R44). -/
def State.rdData (s : State) : Byte := window s.committed s.rdAddr

/-- Put an address on the `rd_addr` port. -/
def State.setRdAddr (s : State) (addr : BitVec 9) : State := { s with rdAddr := addr }

/-! ### Register writes -/

/-- `HEADER(A, B)`: PI, TP and PTY (R101). -/
def State.commitHeader (s : State) (pi : Word) (tp : Bit) (pty : BitVec 5) : State :=
  { s with committed := { s.committed with header := { pi := pi, tp := tp, pty := pty } } }

/-- TA and MS (R111). -/
def State.commitFlags (s : State) (ta ms : Bit) : State :=
  { s with committed := { s.committed with flags := { ta := ta, ms := ms } } }

/-- `DI_SCR` with bit `i` replaced by `b`. -/
def setDiBit (di : BitVec 4) (i : Nat) (b : Bit) : BitVec 4 :=
  if b then di ||| BitVec.twoPow 4 i else di &&& ~~~(BitVec.twoPow 4 i)

/-- The scratch step of a type-0 group: two characters and one DI bit, whose slot is the 2-bit complement of
the address (R112). -/
def State.writePsSegment (s : State) (addr : BitVec 2) (c0 c1 : Byte) (di : Bit) : State :=
  { s with scratch := { s.scratch with
      ps := putByte (putByte s.scratch.ps (2 * addr.toNat) c0) (2 * addr.toNat + 1) c1
      di := setDiBit s.scratch.di (3 - addr.toNat) di } }

/-- The commit of a PS window: PS, DI and PS_VALID (R113). -/
def State.commitName (s : State) : State :=
  { s with committed := { s.committed with
      name := { ps := s.scratch.ps, di := s.scratch.di, valid := true } } }

/-- RT_SCR and RT_SCR_FLAG (R123). -/
def State.writeRtScratch (s : State) (flip : Bit) (rt : Vector Byte 64) : State :=
  { s with scratch := { s.scratch with rt := rt, rtFlag := flip } }

/-- The commit of a radiotext: RT[flip], RT_VALID[flip] and RT_FLAG; the other variant stays (R125). -/
def State.commitText (s : State) (flip : Bit) : State :=
  { s with committed := { s.committed with
      text := if flip then
          { s.committed.text with rt1 := s.scratch.rt, valid1 := true, flag := true }
        else
          { s.committed.text with rt0 := s.scratch.rt, valid0 := true, flag := false } } }

/-- The commit of an accepted clock-time sample: all CT_* registers and CT_VALID (R137). -/
def State.commitClock (s : State) (t : ClockTime) : State :=
  { s with committed := { s.committed with clock := t } }

/-- The commit of `TAG[0]` (R154). -/
def State.commitTag0 (s : State) (t : Tag) : State :=
  { s with committed := { s.committed with tag0 := t } }

/-- The commit of `TAG[1]` (R154). -/
def State.commitTag1 (s : State) (t : Tag) : State :=
  { s with committed := { s.committed with tag1 := t } }

/-- The commit of TITLE (R154). -/
def State.commitTitle (s : State) (v : Vector Byte 64) : State :=
  { s with committed := { s.committed with title := v } }

/-- The commit of ARTIST (R154). -/
def State.commitArtist (s : State) (v : Vector Byte 64) : State :=
  { s with committed := { s.committed with artist := v } }

/-- Every register at its reset value and no APPLY in progress: power-up (R43) and RESET (R165, R42). What the
host drives (`rdAddr`, `inputs`) and the configuration are no registers and stay. -/
def State.clearAll (s : State) : State :=
  { s with committed := Committed.zero, scratch := Scratch.zero, inFlight := none }

end Sys2Proof.Machine
end

