-- ==== Sys2Proof/Machine/Ps.lean ====
section
/-! DEFINITION. The program-service-name reassembler, groups 0A and 0B (spec/41_ps.md). -/

namespace Sys2Proof.Machine

/-- `HEADER(A, B)` of a group's payload (R101). -/
def State.header (s : State) (x : Payload) : State := s.commitHeader x.pi x.tp x.pty

/-- The commit step: only at address 3 (R113). -/
def commitAtThree (addr : BitVec 2) (s : State) : State := if addr = 3 then s.commitName else s

/-- `PS_DECODE`: the flag step, the scratch step and the commit step, in that order (R110 to R113). -/
def psDecode (x : Payload) (s : State) : State :=
  let f := psFields x
  commitAtThree f.addr ((s.commitFlags f.ta f.ms).writePsSegment f.addr f.c0 f.c1 f.di)

/-- `GRP_0A` (R114). -/
def execGrp0A (x : Payload) (s : State) : Host.Outcome State Fault Refusal :=
  .next (psDecode x (s.header x))

/-- `GRP_0B`, identical to GRP_0A: one decoder serves both versions (R115). -/
def execGrp0B (x : Payload) (s : State) : Host.Outcome State Fault Refusal :=
  .next (psDecode x (s.header x))

end Sys2Proof.Machine
end

