-- ==== Sys2Proof/Machine/ClockTime.lean ====
section
/-! DEFINITION. The modified-Julian-day timestamp decoder and Gregorian converter, group 4A
(spec/43_clocktime.md). -/

namespace Sys2Proof.Machine

/-- A calendar date. -/
structure CalendarDate where
  year : Nat
  month : Nat
  day : Nat
deriving DecidableEq, Repr

/-- `MJD_TO_YMD`: the proleptic-Gregorian date of a day count, by the exact integer formulas of R138. -/
def mjdToYmd (mjd : Nat) : CalendarDate :=
  let jd := mjd + 2400001
  let alpha := (100 * jd - 186721625) / 3652425
  let a := jd + 1 + alpha - alpha / 4
  let b := a + 1524
  let c := (100 * b - 12210) / 36525
  let dd := (36525 * c) / 100
  let e := ((b - dd) * 10000) / 306001
  let day := b - dd - (306001 * e) / 10000
  let month := if e > 13 then e - 13 else e - 1
  let year := (c - 4715) - (if month > 2 then 1 else 0)
  { year := year, month := month, day := day }

/-- `OFFSET(osign, omag)`: sign and magnitude to six-bit two's complement; a negative zero gives 0 (R139). -/
def offsetOf (osign : Bit) (omag : BitVec 5) : BitVec 6 :=
  if osign then -(omag.setWidth 6) else omag.setWidth 6

/-- The acceptance check (R136). -/
def accepts (f : CtFields) : Bool := decide (f.hour.toNat < 24) && decide (f.minute.toNat < 60)

/-- The clock-time registers an accepted sample leaves (R137). -/
def clockOf (f : CtFields) : ClockTime :=
  let date := mjdToYmd f.mjd.toNat
  { valid := true
    year := BitVec.ofNat 16 date.year
    month := BitVec.ofNat 4 date.month
    day := BitVec.ofNat 5 date.day
    hour := f.hour
    minute := f.minute
    offset := offsetOf f.osign f.omag }

/-- `CT_DECODE`: an accepted sample commits, and a rejected one changes nothing (R135 to R137). -/
def ctDecode (x : Payload) (s : State) : State :=
  let f := ctFields x
  if accepts f then s.commitClock (clockOf f) else s

/-- `GRP_4A` (R140). -/
def execGrp4A (x : Payload) (s : State) : Host.Outcome State Fault Refusal :=
  .next (ctDecode x (s.header x))

end Sys2Proof.Machine
end

