-- ==== Sys2Proof/Machine/Radiotext.lean ====
section
/-! DEFINITION. The radiotext reassembler with early termination, groups 2A and 2B (spec/42_radiotext.md). -/

namespace Sys2Proof.Machine

/-- The carriage return, 0x0D (R123). -/
def carriageReturn : Byte := 0x0D

/-- The copy loop of R123 from position `p`: characters in order, until a carriage return (0x00 is written in
its place) or the last byte of the buffer. Answers the buffer and `done`. -/
def scanSegment (seg : List Byte) (p : Nat) (buf : Vector Byte 64) : Vector Byte 64 × Bool :=
  match seg with
  | [] => (buf, false)
  | ch :: rest =>
    if ch = carriageReturn then (putByte buf p 0x00, true)
    else if p = 63 then (putByte buf p ch, true)
    else scanSegment rest (p + 1) (putByte buf p ch)

/-- The body of `RT_DECODE` on a segment: the flip record and the scratch writes (R123), and the commit when
completion was declared (R124, R125). -/
def rtDecode (f : RtFields) (s : State) : State :=
  let r := scanSegment f.seg f.off s.scratch.rt
  let s1 := s.writeRtScratch f.flip r.1
  if r.2 then s1.commitText f.flip else s1

/-- `GRP_2A` (R127). -/
def execGrp2A (x : Payload) (s : State) : Host.Outcome State Fault Refusal :=
  .next (rtDecode (rtFields2A x) (s.header x))

/-- `GRP_2B` (R128). -/
def execGrp2B (x : Payload) (s : State) : Host.Outcome State Fault Refusal :=
  .next (rtDecode (rtFields2B x) (s.header x))

end Sys2Proof.Machine
end

