-- ==== Sys2Proof/Machine/RtPlus.lean ====
section
/-! DEFINITION. The RT+ tag substring extractor (spec/44_rtplus.md), and the pairs whose decoder the
configuration decides: the pair `RTP_GROUP` is RT+, and every other pair but the five fixed ones is
unsupported (spec/30_encoding.md R83, spec/40_classifier.md R103). -/

namespace Sys2Proof.Machine

/-- The bounds check of a tag, on a sum that does not wrap (R152). -/
def inBounds (t : Tag) : Bool := decide (t.start.toNat + t.len.toNat ≤ 64)

/-- `SPAN(s, l)`: `l` bytes of a buffer from `s` on, and 0x00 in the rest (R155). -/
def span (buf : Vector Byte 64) (start len : Nat) : Vector Byte 64 :=
  Vector.ofFn fun i : Fin 64 => if i.val < len then byteAt buf (start + i.val) else 0x00

/-- The span a tag names, from the variant of the most recent radiotext commit, `RT[RT_FLAG]` (R153). -/
def tagSpan (m : Committed) (t : Tag) : Vector Byte 64 :=
  span (m.text.bank m.text.flag) t.start.toNat t.len.toNat

/-- Title or Artist from a tag whose content type is one of the two codes (R154). -/
def commitDerived (t : Tag) (s : State) : State :=
  if t.ctype = s.cfg.ctTitle then s.commitTitle (tagSpan s.committed t)
  else if t.ctype = s.cfg.ctArtist then s.commitArtist (tagSpan s.committed t)
  else s

/-- Tag 0 of R154: nothing when it is out of bounds. -/
def processTag0 (t : Tag) (s : State) : State :=
  if inBounds t then commitDerived t (s.commitTag0 t) else s

/-- Tag 1 of R154: nothing when it is out of bounds. -/
def processTag1 (t : Tag) (s : State) : State :=
  if inBounds t then commitDerived t (s.commitTag1 t) else s

/-- `RTP_DECODE`: nothing unless the running flag is set, then tag 0 and then tag 1 (R150 to R155). -/
def rtpDecode (x : Payload) (s : State) : State :=
  let f := rtpFields x
  if f.running then processTag1 f.tag1 (processTag0 f.tag0 s) else s

/-- A group of a pair without a fixed decoder: the header commit, then RT+ when the pair is `RTP_GROUP`
(R156) and nothing otherwise (R103). -/
def openPair (type : BitVec 4) (version : Bit) (x : Payload) (s : State) : State :=
  if s.cfg.isRtp type version then rtpDecode x (s.header x) else s.header x

/-- `GRP_11A`: RT+ under the default RTP_GROUP (R156), unsupported under another (R83). -/
def execGrp11A (x : Payload) (s : State) : Host.Outcome State Fault Refusal :=
  .next (openPair 11 false x s)

end Sys2Proof.Machine
end

