-- ==== Sys2Proof/Machine/Control.lean ====
section
/-! DEFINITION. The classifier with APPLY (spec/40_classifier.md), and RESET, READ and IDLE
(spec/45_control.md). -/

namespace Sys2Proof.Machine

/-- The seven cases of dispatch (R102). -/
inductive GroupCase where
  | ps0A
  | ps0B
  | rt2A
  | rt2B
  | ct4A
  | rtPlus
  | unsupported
deriving DecidableEq, Repr

/-- The case of a pair, in the order of R100's tests. -/
def classify (k : Config) (type : BitVec 4) (version : Bit) : GroupCase :=
  if type = 0 ∧ version = false then .ps0A
  else if type = 0 ∧ version = true then .ps0B
  else if type = 2 ∧ version = false then .rt2A
  else if type = 2 ∧ version = true then .rt2B
  else if type = 4 ∧ version = false then .ct4A
  else if k.isRtp type version then .rtPlus
  else .unsupported

/-- The decoder of a case, on the state after the header commit; the unsupported case does nothing (R100,
R103). -/
def decodeCase (k : GroupCase) (x : Payload) (s : State) : State :=
  match k with
  | .ps0A => psDecode x s
  | .ps0B => psDecode x s
  | .rt2A => rtDecode (rtFields2A x) s
  | .rt2B => rtDecode (rtFields2B x) s
  | .ct4A => ctDecode x s
  | .rtPlus => rtpDecode x s
  | .unsupported => s

/-- `APPLY(A, B, C, D)`: the header commit and the one decoder its pair selects, in one commit (R100). -/
def execApply (g : RdsGroup) (s : State) : Host.Outcome State Fault Refusal :=
  .next (decodeCase (classify s.cfg (typeOf g.b) (versionOf g.b)) (payloadOf g)
    (s.commitHeader g.a (tpOf g.b) (ptyOf g.b)))

/-- `RESET`: every register to 0; a group presented at the same edge is discarded, and an APPLY in progress is
cancelled (R165, R42). -/
def execReset (_discarded : Option RdsGroup) (s : State) : Host.Outcome State Fault Refusal :=
  .next s.clearAll

/-- `IDLE`: no register changes; a group presented while `grp_ready` is 0 waits (R169). -/
def execIdle (_waiting : Option RdsGroup) (s : State) : Host.Outcome State Fault Refusal :=
  .next s

/-- `READ(addr)`: `rd_data` becomes the window byte at `addr`; no register changes (R167). -/
def execRead (addr : BitVec 9) (s : State) : Host.Outcome State Fault Refusal :=
  .next (s.setRdAddr addr)

end Sys2Proof.Machine
end

