-- ==== Sys2Proof/Machine/Unsupported.lean ====
section
/-! DEFINITION. The 26 pairs that are unsupported under the default RTP_GROUP (spec/40_classifier.md R103).
Each commits its header and does nothing else, unless the configuration makes it the RT+ row
(spec/30_encoding.md R83). -/

namespace Sys2Proof.Machine

/-- `GRP_1A` (R103). -/
def execGrp1A (x : Payload) (s : State) : Host.Outcome State Fault Refusal :=
  .next (openPair 1 false x s)

/-- `GRP_1B` (R103). -/
def execGrp1B (x : Payload) (s : State) : Host.Outcome State Fault Refusal :=
  .next (openPair 1 true x s)

/-- `GRP_3A` (R103). -/
def execGrp3A (x : Payload) (s : State) : Host.Outcome State Fault Refusal :=
  .next (openPair 3 false x s)

/-- `GRP_3B` (R103). -/
def execGrp3B (x : Payload) (s : State) : Host.Outcome State Fault Refusal :=
  .next (openPair 3 true x s)

/-- `GRP_4B` (R103). Clock time is decoded in version A only (R141). -/
def execGrp4B (x : Payload) (s : State) : Host.Outcome State Fault Refusal :=
  .next (openPair 4 true x s)

/-- `GRP_5A` (R103). -/
def execGrp5A (x : Payload) (s : State) : Host.Outcome State Fault Refusal :=
  .next (openPair 5 false x s)

/-- `GRP_5B` (R103). -/
def execGrp5B (x : Payload) (s : State) : Host.Outcome State Fault Refusal :=
  .next (openPair 5 true x s)

/-- `GRP_6A` (R103). -/
def execGrp6A (x : Payload) (s : State) : Host.Outcome State Fault Refusal :=
  .next (openPair 6 false x s)

/-- `GRP_6B` (R103). -/
def execGrp6B (x : Payload) (s : State) : Host.Outcome State Fault Refusal :=
  .next (openPair 6 true x s)

/-- `GRP_7A` (R103). -/
def execGrp7A (x : Payload) (s : State) : Host.Outcome State Fault Refusal :=
  .next (openPair 7 false x s)

/-- `GRP_7B` (R103). -/
def execGrp7B (x : Payload) (s : State) : Host.Outcome State Fault Refusal :=
  .next (openPair 7 true x s)

/-- `GRP_8A` (R103). -/
def execGrp8A (x : Payload) (s : State) : Host.Outcome State Fault Refusal :=
  .next (openPair 8 false x s)

/-- `GRP_8B` (R103). -/
def execGrp8B (x : Payload) (s : State) : Host.Outcome State Fault Refusal :=
  .next (openPair 8 true x s)

/-- `GRP_9A` (R103). -/
def execGrp9A (x : Payload) (s : State) : Host.Outcome State Fault Refusal :=
  .next (openPair 9 false x s)

/-- `GRP_9B` (R103). -/
def execGrp9B (x : Payload) (s : State) : Host.Outcome State Fault Refusal :=
  .next (openPair 9 true x s)

/-- `GRP_10A` (R103). -/
def execGrp10A (x : Payload) (s : State) : Host.Outcome State Fault Refusal :=
  .next (openPair 10 false x s)

/-- `GRP_10B` (R103). -/
def execGrp10B (x : Payload) (s : State) : Host.Outcome State Fault Refusal :=
  .next (openPair 10 true x s)

/-- `GRP_11B` (R103). -/
def execGrp11B (x : Payload) (s : State) : Host.Outcome State Fault Refusal :=
  .next (openPair 11 true x s)

/-- `GRP_12A` (R103). -/
def execGrp12A (x : Payload) (s : State) : Host.Outcome State Fault Refusal :=
  .next (openPair 12 false x s)

/-- `GRP_12B` (R103). -/
def execGrp12B (x : Payload) (s : State) : Host.Outcome State Fault Refusal :=
  .next (openPair 12 true x s)

/-- `GRP_13A` (R103). -/
def execGrp13A (x : Payload) (s : State) : Host.Outcome State Fault Refusal :=
  .next (openPair 13 false x s)

/-- `GRP_13B` (R103). -/
def execGrp13B (x : Payload) (s : State) : Host.Outcome State Fault Refusal :=
  .next (openPair 13 true x s)

/-- `GRP_14A` (R103). -/
def execGrp14A (x : Payload) (s : State) : Host.Outcome State Fault Refusal :=
  .next (openPair 14 false x s)

/-- `GRP_14B` (R103). -/
def execGrp14B (x : Payload) (s : State) : Host.Outcome State Fault Refusal :=
  .next (openPair 14 true x s)

/-- `GRP_15A` (R103). -/
def execGrp15A (x : Payload) (s : State) : Host.Outcome State Fault Refusal :=
  .next (openPair 15 false x s)

/-- `GRP_15B` (R103). -/
def execGrp15B (x : Payload) (s : State) : Host.Outcome State Fault Refusal :=
  .next (openPair 15 true x s)

end Sys2Proof.Machine
end

