-- ==== Sys2Proof/Machine/Dispatch.lean ====
section
/-! DEFINITION. The dispatch: one arm per constructor of `Instr`, each one call of its meaning. -/

namespace Sys2Proof.Machine

def exec (i : Instr) (s : State) : Host.Outcome State Fault Refusal :=
  match i with
  | .grp0A x => Sys2Proof.Machine.execGrp0A x s
  | .grp0B x => Sys2Proof.Machine.execGrp0B x s
  | .grp1A x => Sys2Proof.Machine.execGrp1A x s
  | .grp1B x => Sys2Proof.Machine.execGrp1B x s
  | .grp2A x => Sys2Proof.Machine.execGrp2A x s
  | .grp2B x => Sys2Proof.Machine.execGrp2B x s
  | .grp3A x => Sys2Proof.Machine.execGrp3A x s
  | .grp3B x => Sys2Proof.Machine.execGrp3B x s
  | .grp4A x => Sys2Proof.Machine.execGrp4A x s
  | .grp4B x => Sys2Proof.Machine.execGrp4B x s
  | .grp5A x => Sys2Proof.Machine.execGrp5A x s
  | .grp5B x => Sys2Proof.Machine.execGrp5B x s
  | .grp6A x => Sys2Proof.Machine.execGrp6A x s
  | .grp6B x => Sys2Proof.Machine.execGrp6B x s
  | .grp7A x => Sys2Proof.Machine.execGrp7A x s
  | .grp7B x => Sys2Proof.Machine.execGrp7B x s
  | .grp8A x => Sys2Proof.Machine.execGrp8A x s
  | .grp8B x => Sys2Proof.Machine.execGrp8B x s
  | .grp9A x => Sys2Proof.Machine.execGrp9A x s
  | .grp9B x => Sys2Proof.Machine.execGrp9B x s
  | .grp10A x => Sys2Proof.Machine.execGrp10A x s
  | .grp10B x => Sys2Proof.Machine.execGrp10B x s
  | .grp11A x => Sys2Proof.Machine.execGrp11A x s
  | .grp11B x => Sys2Proof.Machine.execGrp11B x s
  | .grp12A x => Sys2Proof.Machine.execGrp12A x s
  | .grp12B x => Sys2Proof.Machine.execGrp12B x s
  | .grp13A x => Sys2Proof.Machine.execGrp13A x s
  | .grp13B x => Sys2Proof.Machine.execGrp13B x s
  | .grp14A x => Sys2Proof.Machine.execGrp14A x s
  | .grp14B x => Sys2Proof.Machine.execGrp14B x s
  | .grp15A x => Sys2Proof.Machine.execGrp15A x s
  | .grp15B x => Sys2Proof.Machine.execGrp15B x s
  | .apply g => Sys2Proof.Machine.execApply g s
  | .reset d => Sys2Proof.Machine.execReset d s
  | .idle w => Sys2Proof.Machine.execIdle w s
  | .read addr => Sys2Proof.Machine.execRead addr s

end Sys2Proof.Machine
end

