-- ==== Sys2Proof/Machine/Clock.lean ====
section
/-! DEFINITION. The request handshake (spec/10_state.md R40 to R46, spec/60_exceptions.md R179): what the block
does at one rising edge of `clk` and in the clock cycle that follows it, up to the next edge. An APPLY with
APPLY_LATENCY = 1 is accepted and becomes visible within one such step; a longer one is in progress across
several, and `grp_ready` is 0 meanwhile. -/

namespace Sys2Proof.Machine

/-- `grp_ready` at an edge: no APPLY in progress and `rst_n` = 1 (R45, R43); also 1 at a RESET that discards a
presented group (R42, log entry 6). -/
def grpReady (e : Edge) (s : State) : Bit :=
  e.rstN && (s.inFlight.isNone || (e.softReset && e.grpValid))

/-- CTRL at an edge: `soft_reset : grp_valid` (R71). -/
def ctrlOf (e : Edge) : BitVec 2 := BitVec.ofBool e.softReset ++ BitVec.ofBool e.grpValid

/-- The operation an edge requests while `rst_n` is 1 (R72). -/
def instrAt (e : Edge) (s : State) : Instr := decode (.ctrl (ctrlOf e) (grpReady e s) e.words)

/-- The presented group is consumed at this edge: applied, or discarded by a RESET (R41, R42). -/
def consumes (e : Edge) (s : State) : Bit := e.grpValid && grpReady e s

/-- An edge with no request: an idle host (R46, R169). -/
def quietEdge : Edge := { rstN := true, softReset := false, grpValid := false, words := noWords, extra := 0 }

/-- Take a group whose effects appear after `left` more clock cycles (R41). -/
def State.accept (s : State) (g : RdsGroup) (left : Nat) : State :=
  { s with inFlight := some { group := g, left := left } }

/-- No APPLY in progress. -/
def State.land (s : State) : State := { s with inFlight := none }

/-- One clock cycle of the APPLY in progress: at its last one its effects become visible, all together (R41,
R52); before that only the count falls. -/
def advance (s : State) : Host.Outcome State Fault Refusal :=
  match s.inFlight with
  | none => .next s
  | some f => if f.left ≤ 1 then exec (.apply f.group) s.land else .next (s.accept f.group (f.left - 1))

/-- Run the operation of an edge, and then the cycle that follows it. -/
def runThenAdvance (i : Instr) (s : State) : Host.Outcome State Fault Refusal :=
  match exec i s with
  | .next t => advance t
  | .fault r => .fault r
  | .refused r => .refused r

/-- One clock edge. `rst_n` = 0 wins over everything and holds every register at its reset value; then
`soft_reset`; then APPLY (R43, R179). An accepted APPLY of latency 1 runs at once; one of a longer latency is
only taken. -/
def clockEdge (e : Edge) (s : State) : Host.Outcome State Fault Refusal :=
  if e.rstN then
    match instrAt e s, e.extra with
    | .apply g, n + 1 => .next (s.accept g (n + 1))
    | i, _ => runThenAdvance i s
  else .next s.clearAll

/-- The host's next input is taken off the list. -/
def State.dropInput (s : State) : State := { s with inputs := s.inputs.tail }

/-- The host's next input: a clock edge, or a READ between edges; an idle host's edge when none is left. -/
def runInput (s : State) : Host.Outcome State Fault Refusal :=
  match s.inputs with
  | [] => clockEdge quietEdge s
  | .edge e :: _ => clockEdge e s.dropInput
  | .read addr :: _ => exec (.read addr) s.dropInput

/-- The input that presents a request: a READ, or an edge with `rst_n` = 1 and latency 1. -/
def inputOf (r : Request) : Input :=
  match r with
  | .ctrl bits _ g =>
    .edge { rstN := true, softReset := bits.getLsbD 1, grpValid := bits.getLsbD 0, words := g, extra := 0 }
  | .group g => .edge { rstN := true, softReset := false, grpValid := true, words := g, extra := 0 }
  | .rdport addr => .read addr

/-- The state with a request presented next, the block ready for it. -/
def State.present (s : State) (r : Request) : State :=
  { s with inFlight := none, inputs := inputOf r :: s.inputs }

end Sys2Proof.Machine
end

