-- ==== Sys2Proof/Machine/Step.lean ====
section
/-! DEFINITION. One step: the host's next input, run by Machine/Clock.lean. A configuration that the spec does
not allow is refused (spec/00_scope.md R10, spec/92_eei_decisions.md D38). -/

namespace Sys2Proof.Machine

/-- One step of the block. -/
def step (s : State) : Host.Outcome State Fault Refusal :=
  if s.cfg.wf then runInput s else .refused .illegalConfiguration

/-- `s` with the request that spec/opcode_table.json numbers `w` (`nbits` wide) presented next, so that the
next step runs it; `s` itself where no format has that width. -/
def State.withFetchWord (s : State) (nbits w : Nat) : State :=
  match requestOfWord nbits w with
  | some r => s.present r
  | none => s

end Sys2Proof.Machine
end

