-- ==== Sys2Proof/Machine/Accessors.lean ====
section
/-! DEFINITION. The read accessors of spec/45_control.md R168, each built from bytes of the read window alone,
as a host that holds off APPLY and RESET reads them (spec/20_memory.md R57, R62). -/

namespace Sys2Proof.Machine

/-- `MemRead(addr, n)` with no APPLY or RESET in between: `n` one-byte READs at rising addresses (R57, R62).
DESIGN CHOICE (log entry 13): R57 gives no meaning to a range that runs past 0x1FF, an address that R58 says cannot be
formed; here `addr + i` keeps its low nine bits, so such a range goes on at 0x000. No accessor reads such a range. -/
def memRead (m : Committed) (addr n : Nat) : List Byte :=
  (List.range n).map fun i => window m (BitVec.ofNat 9 (addr + i))

/-- `STR`: the bytes before the first 0x00, or all of them (R15). -/
def str (bytes : List Byte) : List Byte := bytes.takeWhile (· != 0x00)

/-- The station ID, 0x000 and 0x001. -/
def stationId (m : Committed) : Word := window m 0x001 ++ window m 0x000

/-- The program type, 0x002. -/
def programType (m : Committed) : BitVec 5 := (window m 0x002).setWidth 5

/-- One bit of FLAGS, 0x003. -/
def flagBit (m : Committed) (i : Nat) : Bit := (window m 0x003).getLsbD i

/-- The decoder identification, 0x004. -/
def decoderId (m : Committed) : BitVec 4 := (window m 0x004).setWidth 4

/-- The program-service name, or `none` for "unavailable". -/
def stationName (m : Committed) : Option (List Byte) :=
  if flagBit m 3 then some (str (memRead m 0x018 8)) else none

/-- The radiotext of variant `f`, or `none` where it is absent. -/
def radioTextOf (m : Committed) (f : Bit) : Option (List Byte) :=
  if f then
    if flagBit m 5 then some (str (memRead m 0x080 64)) else none
  else
    if flagBit m 4 then some (str (memRead m 0x040 64)) else none

/-- The last radiotext variant. -/
def lastVariant (m : Committed) : Bit := flagBit m 6

/-- A reading of the clock time: UTC, and the offset in half-hours that is not applied (R200). -/
structure ClockReading where
  year : Nat
  month : Nat
  day : Nat
  hour : Nat
  minute : Nat
  offset : Int
deriving DecidableEq, Repr

/-- The clock time, 0x005 to 0x00B, or `none` for "unavailable". -/
def clockReading (m : Committed) : Option ClockReading :=
  if flagBit m 7 then
    some { year := (window m 0x00B ++ window m 0x00A : Word).toNat
           month := (window m 0x005).toNat
           day := (window m 0x006).toNat
           hour := (window m 0x007).toNat
           minute := (window m 0x008).toNat
           offset := (window m 0x009).toInt }
  else none

/-- `TAG[0]`, 0x00C to 0x00E. -/
def tagReading0 (m : Committed) : Tag :=
  { ctype := (window m 0x00C).setWidth 6, start := (window m 0x00D).setWidth 6, len := (window m 0x00E).setWidth 6 }

/-- `TAG[1]`, 0x010 to 0x012. -/
def tagReading1 (m : Committed) : Tag :=
  { ctype := (window m 0x010).setWidth 6, start := (window m 0x011).setWidth 6, len := (window m 0x012).setWidth 6 }

/-- Title, possibly the empty string. -/
def titleOf (m : Committed) : List Byte := str (memRead m 0x0C0 64)

/-- Artist, possibly the empty string. -/
def artistOf (m : Committed) : List Byte := str (memRead m 0x100 64)

end Sys2Proof.Machine
end

