-- ==== Sys2Proof/Safety.lean ====
section
/-! DEFINITION. The terms the claims use: the calendar of spec/43_clocktime.md R142, the invariants of
spec/10_state.md R49, the reset state register by register (R47), the rows by decoder, and runs of operations
and of clock edges. -/

namespace Sys2Proof.Machine

/-! ### The proleptic-Gregorian calendar (R142) -/

/-- Leap years: divisible by 4, except those divisible by 100 and not by 400. -/
def isLeapYear (y : Nat) : Bool := y % 4 == 0 && (y % 100 != 0 || y % 400 == 0)

/-- The number of days of a month. -/
def daysInMonth (y m : Nat) : Nat :=
  if m = 2 then (if isLeapYear y then 29 else 28)
  else if m = 4 ∨ m = 6 ∨ m = 9 ∨ m = 11 then 30
  else 31

/-- A date of the calendar: month 1..12 and day 1..(days in the month). -/
def CalendarDate.wf (d : CalendarDate) : Bool :=
  decide (1 ≤ d.month) && decide (d.month ≤ 12) && decide (1 ≤ d.day) && decide (d.day ≤ daysInMonth d.year d.month)

/-- The day after a date. -/
def nextDate (d : CalendarDate) : CalendarDate :=
  if d.day < daysInMonth d.year d.month then { d with day := d.day + 1 }
  else if d.month < 12 then { year := d.year, month := d.month + 1, day := 1 }
  else { year := d.year + 1, month := 1, day := 1 }

/-- The date in the clock-time registers. -/
def ClockTime.date (t : ClockTime) : CalendarDate :=
  { year := t.year.toNat, month := t.month.toNat, day := t.day.toNat }

/-! ### Invariants (R49) -/

/-- The hour and minute part of R49(b). -/
def ClockInRange (m : Committed) : Prop :=
  m.clock.valid = true → m.clock.hour.toNat < 24 ∧ m.clock.minute.toNat < 60

/-- The date part of R49(b). -/
def ClockDateValid (m : Committed) : Prop :=
  m.clock.valid = true → m.clock.date.wf = true

/-- R49(c): the span of each tag lies within 64 bytes. -/
def TagsInBounds (m : Committed) : Prop :=
  m.tag0.start.toNat + m.tag0.len.toNat ≤ 64 ∧ m.tag1.start.toNat + m.tag1.len.toNat ≤ 64

/-- An APPLY in progress has at least one cycle left (R41). -/
def FlightCounted (s : State) : Prop := ∀ f, s.inFlight = some f → 1 ≤ f.left

/-- The invariant every step keeps: a legal configuration (R10), the clock in range and the tags in bounds
(R49), and an APPLY in progress that is still to land. -/
def State.Inv (s : State) : Prop :=
  s.cfg.wf = true ∧ ClockInRange s.committed ∧ TagsInBounds s.committed ∧ FlightCounted s

/-! ### The reset values, register by register (R47) -/

/-- Every committed register is 0. -/
def CommittedZero (m : Committed) : Prop :=
  m.header.pi = 0 ∧ m.header.pty = 0 ∧ m.header.tp = false ∧ m.flags.ta = false ∧ m.flags.ms = false
  ∧ m.name.valid = false ∧ m.text.valid0 = false ∧ m.text.valid1 = false ∧ m.text.flag = false
  ∧ m.clock.valid = false ∧ m.name.di = 0 ∧ m.clock.month = 0 ∧ m.clock.day = 0 ∧ m.clock.hour = 0
  ∧ m.clock.minute = 0 ∧ m.clock.offset = 0 ∧ m.clock.year = 0
  ∧ m.tag0.ctype = 0 ∧ m.tag0.start = 0 ∧ m.tag0.len = 0 ∧ m.tag1.ctype = 0 ∧ m.tag1.start = 0 ∧ m.tag1.len = 0
  ∧ (∀ i, byteAt m.name.ps i = 0) ∧ (∀ i, byteAt m.text.rt0 i = 0) ∧ (∀ i, byteAt m.text.rt1 i = 0)
  ∧ (∀ i, byteAt m.title i = 0) ∧ (∀ i, byteAt m.artist i = 0)

/-- Every scratch register is 0. -/
def ScratchZero (r : Scratch) : Prop :=
  (∀ i, byteAt r.ps i = 0) ∧ r.di = 0 ∧ (∀ i, byteAt r.rt i = 0) ∧ r.rtFlag = false

/-! ### Rows by decoder -/

/-- The two program-service-name rows. -/
def psRows : List (Payload → Instr) := [.grp0A, .grp0B]

/-- The rows without a fixed decoder, with their pairs: the row whose pair is RTP_GROUP is RT+ and the others
are unsupported (R83). -/
def openRows : List (BitVec 4 × Bit × (Payload → Instr)) :=
  [ (1, false, .grp1A), (1, true, .grp1B), (3, false, .grp3A),
    (3, true, .grp3B), (4, true, .grp4B), (5, false, .grp5A),
    (5, true, .grp5B), (6, false, .grp6A), (6, true, .grp6B),
    (7, false, .grp7A), (7, true, .grp7B), (8, false, .grp8A),
    (8, true, .grp8B), (9, false, .grp9A), (9, true, .grp9B),
    (10, false, .grp10A), (10, true, .grp10B), (11, false, .grp11A),
    (11, true, .grp11B), (12, false, .grp12A), (12, true, .grp12B),
    (13, false, .grp13A), (13, true, .grp13B), (14, false, .grp14A),
    (14, true, .grp14B), (15, false, .grp15A), (15, true, .grp15B)]

/-- The row an instruction runs: for an APPLY, the row of its group. -/
def rowInstr (i : Instr) : Instr :=
  match i with
  | .apply g => decodeGroup g
  | i => i

/-- Byte `i` of the span a tag names, read from `RT[RT_FLAG]` (R153, R155). -/
def spanByte (m : Committed) (t : Tag) (i : Nat) : Byte :=
  if i < t.len.toNat then byteAt (m.text.bank m.text.flag) (t.start.toNat + i) else 0x00

/-- What a host sees of the machine that no program of groups changes: the signals and inputs of the host, the
configuration, and that no APPLY came into or out of progress. -/
def SameInterface (s t : State) : Prop :=
  t.inFlight = s.inFlight ∧ t.rdAddr = s.rdAddr ∧ t.inputs = s.inputs ∧ t.cfg = s.cfg

/-- Every window byte outside `written` reads as before. -/
def WindowSameOutside (written : List Nat) (s t : State) : Prop :=
  ∀ a : BitVec 9, a.toNat ∉ written → window t.committed a = window s.committed a

/-- The numbers `base`, `base + 1`, ... `base + n - 1`. -/
def addressRange (base n : Nat) : List Nat := (List.range n).map (base + ·)

/-! ### Runs -/

/-- Operations run one after another (R61). -/
def runInstrs (is : List Instr) (s : State) : Host.Outcome State Fault Refusal :=
  match is with
  | [] => .next s
  | i :: rest =>
    match exec i s with
    | .next t => runInstrs rest t
    | .fault r => .fault r
    | .refused r => .refused r

/-- An edge that presents a group with APPLY_LATENCY = `extra + 1`. -/
def groupEdge (g : RdsGroup) (extra : Nat) : Edge :=
  { rstN := true, softReset := false, grpValid := true, words := g, extra := extra }

/-- The inputs that present a group and leave the block the rest of its latency. -/
def groupInputs (g : RdsGroup) (extra : Nat) : List Input :=
  .edge (groupEdge g extra) :: List.replicate extra (.edge quietEdge)

/-- The inputs that present groups one after another, each with its own latency. -/
def streamInputs (gs : List (RdsGroup × Nat)) : List Input :=
  gs.flatMap fun p => groupInputs p.1 p.2

/-- An input that requests nothing: an idle host's edge, whatever stands on the group words, or a READ. -/
def Input.requestsNothing (i : Input) : Bool :=
  match i with
  | .edge e => e.rstN && !e.softReset && !e.grpValid
  | .read _ => true

end Sys2Proof.Machine
end

