-- ==== Sys2Proof/Certificates/Slice0/Obligations.lean ====
section
/-! DEFINITION. The statements for the provers, each from a numbered rule of spec/ or derived from several. -/

open Sys2Proof Sys2Proof.Machine

/-! ### Reset, power-up and the read window -/

/-- R47: every register has reset value 0: in the state after power-up, after an edge with `rst_n` = 0, and after every
RESET. -/
def Obligations.ResetStateIsAllZero : Prop :=
  (CommittedZero State.reset.committed ∧ ScratchZero State.reset.scratch ∧ State.reset.inFlight = none) ∧
  (∀ (e : Edge) (s : State), e.rstN = false →
    ∃ t, clockEdge e s = .next t ∧ CommittedZero t.committed ∧ ScratchZero t.scratch) ∧
  (∀ (discarded : Option RdsGroup) (s : State),
    ∃ t, exec (.reset discarded) s = .next t ∧ CommittedZero t.committed ∧ ScratchZero t.scratch)

/-- R165: CTRL 0b10 and 0b11 name RESET; it completes from every state, with or without a presented group; every register
becomes 0, an APPLY in progress is cancelled, every window byte reads 0x00, and from the reset state nothing changes. What the
host drives and the configuration stay. -/
def Obligations.ResetClearsEveryRegister : Prop :=
  (∀ (ready : Bit) (g : RdsGroup), decode (.ctrl 0b10 ready g) = .reset none ∧
    decode (.ctrl 0b11 ready g) = .reset (some g)) ∧
  (∀ (discarded : Option RdsGroup) (s : State), ∃ t, exec (.reset discarded) s = .next t ∧
    CommittedZero t.committed ∧ ScratchZero t.scratch ∧ t.inFlight = none ∧
    t.rdAddr = s.rdAddr ∧ t.inputs = s.inputs ∧ t.cfg = s.cfg ∧ ∀ a : BitVec 9, window t.committed a = 0x00) ∧
  (∀ discarded : Option RdsGroup, exec (.reset discarded) State.reset = .next State.reset)

/-- R48: where every committed register is 0, each of the 512 window addresses reads 0x00: the name, both radiotexts and the
clock time read as unavailable, Title and Artist as the empty string, and PI as 0x0000. -/
def Obligations.ZeroRegistersReadZeroEverywhere : Prop :=
  ∀ m : Committed, CommittedZero m → (∀ a : BitVec 9, window m a = 0x00) ∧ stationName m = none ∧
    radioTextOf m false = none ∧ radioTextOf m true = none ∧ clockReading m = none ∧ titleOf m = [] ∧
    artistOf m = [] ∧ stationId m = 0

/-- R50, R53, R54, R59: the map of the read window, address by address. -/
def Obligations.ReadWindowMap : Prop :=
  ∀ m : Committed,
    window m 0x000 = m.header.pi.extractLsb' 0 8 ∧ window m 0x001 = m.header.pi.extractLsb' 8 8 ∧
    window m 0x002 = m.header.pty.setWidth 8 ∧ window m 0x003 = flagsByte m ∧
    window m 0x004 = m.name.di.setWidth 8 ∧ window m 0x005 = m.clock.month.setWidth 8 ∧
    window m 0x006 = m.clock.day.setWidth 8 ∧ window m 0x007 = m.clock.hour.setWidth 8 ∧
    window m 0x008 = m.clock.minute.setWidth 8 ∧ window m 0x009 = m.clock.offset.signExtend 8 ∧
    window m 0x00A = m.clock.year.extractLsb' 0 8 ∧ window m 0x00B = m.clock.year.extractLsb' 8 8 ∧
    window m 0x00C = m.tag0.ctype.setWidth 8 ∧ window m 0x00D = m.tag0.start.setWidth 8 ∧
    window m 0x00E = m.tag0.len.setWidth 8 ∧ window m 0x010 = m.tag1.ctype.setWidth 8 ∧
    window m 0x011 = m.tag1.start.setWidth 8 ∧ window m 0x012 = m.tag1.len.setWidth 8 ∧
    (∀ i, i < 8 → window m (BitVec.ofNat 9 (0x018 + i)) = byteAt m.name.ps i) ∧
    (∀ i, i < 64 → window m (BitVec.ofNat 9 (0x040 + i)) = byteAt m.text.rt0 i) ∧
    (∀ i, i < 64 → window m (BitVec.ofNat 9 (0x080 + i)) = byteAt m.text.rt1 i) ∧
    (∀ i, i < 64 → window m (BitVec.ofNat 9 (0x0C0 + i)) = byteAt m.title i) ∧
    (∀ i, i < 64 → window m (BitVec.ofNat 9 (0x100 + i)) = byteAt m.artist i) ∧
    window m 0x00F = 0x00 ∧
    (∀ a : BitVec 9, 0x013 ≤ a.toNat → a.toNat ≤ 0x017 → window m a = 0x00) ∧
    (∀ a : BitVec 9, 0x020 ≤ a.toNat → a.toNat ≤ 0x03F → window m a = 0x00) ∧
    (∀ a : BitVec 9, 0x140 ≤ a.toNat → window m a = 0x00)

/-- R51: the FLAGS byte, bit by bit. -/
def Obligations.FlagsByteBits : Prop :=
  ∀ m : Committed,
    (window m 0x003).getLsbD 0 = m.header.tp ∧ (window m 0x003).getLsbD 1 = m.flags.ta ∧
    (window m 0x003).getLsbD 2 = m.flags.ms ∧ (window m 0x003).getLsbD 3 = m.name.valid ∧
    (window m 0x003).getLsbD 4 = m.text.valid0 ∧ (window m 0x003).getLsbD 5 = m.text.valid1 ∧
    (window m 0x003).getLsbD 6 = m.text.flag ∧ (window m 0x003).getLsbD 7 = m.clock.valid

/-- R167: READ completes from every state and at every address, `rd_data` is the window byte at that address, and
no register changes; a second READ of the address answers the same byte (R56). -/
def Obligations.ReadReturnsTheWindowByte : Prop :=
  ∀ (addr : BitVec 9) (s : State), ∃ t, exec (.read addr) s = .next t ∧
    t.rdData = window s.committed addr ∧ t.committed = s.committed ∧ t.scratch = s.scratch ∧
    t.inFlight = s.inFlight ∧ t.inputs = s.inputs ∧ t.cfg = s.cfg ∧
    exec (.read addr) t = .next t

/-- R57, R62: a host that reads `n` bytes with no APPLY or RESET in between gets the `n` bytes of one state. Where
`base + n` exceeds 0x200 the addresses wrap to 0x000, which is the model's choice and not the spec's (log entry 13). -/
def Obligations.UndisturbedReadsAreOneSnapshot : Prop :=
  ∀ (s : State) (base n k : Nat) (rest : List Input), s.cfg.wf = true → k < n →
    s.inputs = (List.range n).map (fun i => Input.read (BitVec.ofNat 9 (base + i))) ++ rest →
    ∃ t, Host.Core.run Sys2Proof.core (k + 1) s = .next t ∧ t.committed = s.committed ∧
      some t.rdData = (memRead s.committed base n)[k]?

/-- R168, R15, R29, R30: the accessors a host builds from window bytes give the registers, and a string only where
its valid bit is 1. -/
def Obligations.AccessorsReportTheRegisters : Prop :=
  ∀ m : Committed,
    stationId m = m.header.pi ∧ programType m = m.header.pty ∧ decoderId m = m.name.di ∧
    flagBit m 0 = m.header.tp ∧ flagBit m 1 = m.flags.ta ∧ flagBit m 2 = m.flags.ms ∧
    lastVariant m = m.text.flag ∧ tagReading0 m = m.tag0 ∧ tagReading1 m = m.tag1 ∧
    stationName m = (if m.name.valid then some (str m.name.ps.toList) else none) ∧
    (∀ f, radioTextOf m f = (if m.text.validOf f then some (str (m.text.bank f).toList) else none)) ∧
    clockReading m = (if m.clock.valid then
      some { year := m.clock.year.toNat, month := m.clock.month.toNat, day := m.clock.day.toNat,
             hour := m.clock.hour.toNat, minute := m.clock.minute.toNat, offset := m.clock.offset.toInt }
      else none) ∧
    titleOf m = str m.title.toList ∧ artistOf m = str m.artist.toList

/-! ### Decoding and encoding -/

/-- R90: decoding the encoding of any instruction gives it back, every operand at every value. -/
def Obligations.DecodeOfEncode : Prop :=
  ∀ i : Instr, i.wf = true → decode (encode i) = i

/-- R73, R74, R83: no bit of a group is dropped: encoding the row a group decodes to gives the group back. -/
def Obligations.EncodeOfDecodedGroup : Prop :=
  ∀ g : RdsGroup, encode (decode (.group g)) = .group g

/-- R83, R84, R102: every group has exactly one row of the opcode table: its own row selects it, and every GROUP row that
selects it is that row. -/
def Obligations.EveryGroupHasExactlyOneRow : Prop :=
  ∀ g : RdsGroup, (rowOf (decode (.group g))).selects (.group g) = true ∧
    ∀ i : Instr, (rowOf i).selects (.group g) = true → rowOf i = rowOf (decode (.group g))

/-- R72, R46: what each CTRL value requests while `rst_n` is 1. -/
def Obligations.CtrlValuesDecode : Prop :=
  ∀ (e : Edge) (s : State), e.rstN = true →
    (e.softReset = false → e.grpValid = false → instrAt e s = .idle none) ∧
    (e.softReset = false → e.grpValid = true → s.inFlight = none → instrAt e s = .apply e.words) ∧
    (e.softReset = false → e.grpValid = true → s.inFlight ≠ none → instrAt e s = .idle (some e.words)) ∧
    (e.softReset = true → e.grpValid = false → instrAt e s = .reset none) ∧
    (e.softReset = true → e.grpValid = true → instrAt e s = .reset (some e.words))

/-- R88: every well-formed pseudo-request expands to a group of its row that carries exactly its operands, in the
layouts of R77, R78, R80 and R82. -/
def Obligations.PseudoRequestsCarryTheirOperands : Prop :=
  ∀ (k : Config) (p : Pseudo), k.wf = true → p.wf = true →
    let g := expand k p
    let x := payloadOf g
    match p with
    | .ps0A pi tp pty ta ms di addr c0 c1 =>
      decode (.group g) = .grp0A x ∧ x.pi.toNat = pi ∧ x.tp.toNat = tp ∧ x.pty.toNat = pty ∧ x.c = 0 ∧
      psFields x = { ta := decide (ta = 1), ms := decide (ms = 1), di := decide (di = 1),
                     addr := BitVec.ofNat 2 addr, c0 := BitVec.ofNat 8 c0, c1 := BitVec.ofNat 8 c1 }
    | .ps0B pi tp pty ta ms di addr c0 c1 =>
      decode (.group g) = .grp0B x ∧ x.pi.toNat = pi ∧ x.tp.toNat = tp ∧ x.pty.toNat = pty ∧ x.c = x.pi ∧
      psFields x = { ta := decide (ta = 1), ms := decide (ms = 1), di := decide (di = 1),
                     addr := BitVec.ofNat 2 addr, c0 := BitVec.ofNat 8 c0, c1 := BitVec.ofNat 8 c1 }
    | .rt2A pi tp pty flip addr c0 c1 c2 c3 =>
      decode (.group g) = .grp2A x ∧ x.pi.toNat = pi ∧ x.tp.toNat = tp ∧ x.pty.toNat = pty ∧
      rtFields2A x = { flip := decide (flip = 1), off := 4 * addr,
                       seg := [BitVec.ofNat 8 c0, BitVec.ofNat 8 c1, BitVec.ofNat 8 c2, BitVec.ofNat 8 c3] }
    | .rt2B pi tp pty flip addr c0 c1 =>
      decode (.group g) = .grp2B x ∧ x.pi.toNat = pi ∧ x.tp.toNat = tp ∧ x.pty.toNat = pty ∧ x.c = x.pi ∧
      rtFields2B x = { flip := decide (flip = 1), off := 2 * addr,
                       seg := [BitVec.ofNat 8 c0, BitVec.ofNat 8 c1] }
    | .ct4A pi tp pty mjd hour minute osign omag =>
      decode (.group g) = .grp4A x ∧ x.pi.toNat = pi ∧ x.tp.toNat = tp ∧ x.pty.toNat = pty ∧
      ctFields x = { mjd := BitVec.ofNat 17 mjd, hour := BitVec.ofNat 5 hour, minute := BitVec.ofNat 6 minute,
                     osign := decide (osign = 1), omag := BitVec.ofNat 5 omag }
    | .rtp pi tp pty run ct1 s1 l1 ct2 s2 l2 =>
      typeOf g.b = k.rtpType ∧ versionOf g.b = k.rtpVersion ∧
      x.pi.toNat = pi ∧ x.tp.toNat = tp ∧ x.pty.toNat = pty ∧
      rtpFields x = { running := decide (run = 1)
                      tag0 := { ctype := BitVec.ofNat 6 ct1, start := BitVec.ofNat 6 s1, len := BitVec.ofNat 6 l1 }
                      tag1 := { ctype := BitVec.ofNat 6 ct2, start := BitVec.ofNat 6 s2, len := BitVec.ofNat 6 l2 } }

/-- R73, R76, R77, R78, R80, R82, R121, R122: the fields of a group are the bits of its words that the layouts name. Where the
spec says of a place that it is the RDS or RT+ convention, "from general knowledge, not in source", the model follows it. -/
def Obligations.FieldsAreTheNamedBits : Prop :=
  ∀ g : RdsGroup,
    let x := payloadOf g
    (typeOf g.b = g.b.extractLsb' 12 4 ∧ versionOf g.b = g.b.getLsbD 11) ∧
    (x.pi = g.a ∧ x.tp = g.b.getLsbD 10 ∧ x.pty = g.b.extractLsb' 5 5 ∧ x.gs = g.b.extractLsb' 0 5) ∧
    psFields x = { ta := g.b.getLsbD 4, ms := g.b.getLsbD 3, di := g.b.getLsbD 2, addr := g.b.extractLsb' 0 2,
                   c0 := g.d.extractLsb' 8 8, c1 := g.d.extractLsb' 0 8 } ∧
    rtFields2A x = { flip := g.b.getLsbD 4, off := 4 * (g.b.extractLsb' 0 4).toNat,
                     seg := [g.c.extractLsb' 8 8, g.c.extractLsb' 0 8, g.d.extractLsb' 8 8, g.d.extractLsb' 0 8] } ∧
    rtFields2B x = { flip := g.b.getLsbD 4, off := 2 * (g.b.extractLsb' 0 4).toNat,
                     seg := [g.d.extractLsb' 8 8, g.d.extractLsb' 0 8] } ∧
    ctFields x = { mjd := g.b.extractLsb' 0 2 ++ g.c.extractLsb' 1 15,
                   hour := g.c.extractLsb' 0 1 ++ g.d.extractLsb' 12 4, minute := g.d.extractLsb' 6 6,
                   osign := g.d.getLsbD 5, omag := g.d.extractLsb' 0 5 } ∧
    rtpFields x = { running := g.b.getLsbD 4
                    tag0 := { ctype := g.b.extractLsb' 0 3 ++ g.c.extractLsb' 13 3, start := g.c.extractLsb' 7 6,
                              len := g.c.extractLsb' 1 6 }
                    tag1 := { ctype := g.c.extractLsb' 0 1 ++ g.d.extractLsb' 11 5, start := g.d.extractLsb' 5 6,
                              len := (g.d.extractLsb' 0 5).setWidth 6 } }

/-- R83, R87, R88: words written out from the spec's vectors decode to their rows. -/
def Obligations.SpecWordsDecode : Prop :=
  decode (.group ⟨0xC201, 0x0548, 0x0000, 0x4B45⟩) = .grp0A ⟨0xC201, true, 10, 0b01000, 0x0000, 0x4B45⟩ ∧
  decode (.group ⟨0xC201, 0x0D49, 0xC201, 0x4B45⟩) = .grp0B ⟨0xC201, true, 10, 0b01001, 0xC201, 0x4B45⟩ ∧
  decode (.group ⟨0x1234, 0x1FFF, 0xFFFF, 0xFFFF⟩) = .grp1B ⟨0x1234, true, 31, 0b11111, 0xFFFF, 0xFFFF⟩ ∧
  decode (.group ⟨0xC201, 0x2541, 0x6F0D, 0x2020⟩) = .grp2A ⟨0xC201, true, 10, 0b00001, 0x6F0D, 0x2020⟩ ∧
  decode (.group ⟨0xC201, 0x2D41, 0xC201, 0x0D00⟩) = .grp2B ⟨0xC201, true, 10, 0b00001, 0xC201, 0x0D00⟩ ∧
  decode (.group ⟨0xC201, 0x4541, 0xCBF2, 0xE782⟩) = .grp4A ⟨0xC201, true, 10, 0b00001, 0xCBF2, 0xE782⟩ ∧
  decode (.group ⟨0xC201, 0x4D41, 0xCBF2, 0xE782⟩) = .grp4B ⟨0xC201, true, 10, 0b00001, 0xCBF2, 0xE782⟩ ∧
  decode (.group ⟨0xC201, 0xB550, 0x200A, 0x20C5⟩) = .grp11A ⟨0xC201, true, 10, 0b10000, 0x200A, 0x20C5⟩ ∧
  decode (.group ⟨0x1234, 0xFBE0, 0x0000, 0x0000⟩) = .grp15B ⟨0x1234, false, 31, 0b00000, 0x0000, 0x0000⟩ ∧
  decode (.rdport 0x018) = .read 0x018

/-! ### APPLY and the classifier -/

/-- R100, R102: an APPLY does what the row of its group's pair does, and nothing else. -/
def Obligations.ApplyRunsTheRowOfItsPair : Prop :=
  ∀ (g : RdsGroup) (s : State), exec (.apply g) s = exec (decode (.group g)) s

/-- R101: an APPLY completes from every state, for every group; PI, TP and PTY are those of its words, whatever its type,
and no signal, input or parameter changes. -/
def Obligations.EveryApplyCommitsItsHeader : Prop :=
  ∀ (g : RdsGroup) (s : State), ∃ t, exec (.apply g) s = .next t ∧
    t.committed.header.pi = g.a ∧ t.committed.header.tp = g.b.getLsbD 10 ∧
    t.committed.header.pty = g.b.extractLsb' 5 5 ∧ SameInterface s t

/-- R103: a row whose pair has no fixed decoder and is not RTP_GROUP completes from every state, commits its header and
changes nothing else. Under the default RTP_GROUP these are the 26 rows 1A, 1B, 3A, 3B, 4B, 5A to 10B, 11B and 12A to
15B, and under another legal one 11A too. -/
def Obligations.UnsupportedRowsCommitOnlyTheHeader : Prop :=
  ∀ r ∈ openRows, ∀ (x : Payload) (s : State), s.cfg.isRtp r.1 r.2.1 = false →
    exec (r.2.2 x) s = .next { s with committed := { s.committed with
      header := { pi := x.pi, tp := x.tp, pty := x.pty } } }

/-- R91, R74: no bit that no rule reads changes any result. -/
def Obligations.UnreadBitsHaveNoEffect : Prop :=
  ∀ (g h : RdsGroup) (s : State), g.a = h.a → g.b.extractLsb' 5 11 = h.b.extractLsb' 5 11 →
    (classify s.cfg (typeOf g.b) (versionOf g.b) ∈ [GroupCase.ps0A, GroupCase.ps0B, GroupCase.rt2B] →
      g.b = h.b → g.d = h.d → exec (.apply g) s = exec (.apply h) s) ∧
    (classify s.cfg (typeOf g.b) (versionOf g.b) = .ct4A →
      g.b.extractLsb' 0 2 = h.b.extractLsb' 0 2 → g.c = h.c → g.d = h.d →
      exec (.apply g) s = exec (.apply h) s) ∧
    (classify s.cfg (typeOf g.b) (versionOf g.b) = .rtPlus →
      g.b.getLsbD 4 = h.b.getLsbD 4 → g.b.extractLsb' 0 3 = h.b.extractLsb' 0 3 → g.c = h.c → g.d = h.d →
      exec (.apply g) s = exec (.apply h) s) ∧
    (classify s.cfg (typeOf g.b) (versionOf g.b) = .unsupported →
      exec (.apply g) s = exec (.apply h) s)

/-- R104: a group is decoded the same way whichever station's header came before it. -/
def Obligations.EarlierHeadersHaveNoEffect : Prop :=
  ∀ (i : Instr) (s : State) (h : Header), (∃ g, i = .apply g) ∨ (∃ x, encode i = .group x) →
    exec i { s with committed := { s.committed with header := h } } = exec i s

/-! ### Program-service name, groups 0A and 0B -/

/-- R111, R112, R113: a 0A or 0B group completes from every state; it commits its header, TA and MS, writes its own two
bytes of PS_SCR and its own bit of DI_SCR, and at address 3, and only there, commits PS, DI and PS_VALID from the scratch
as it has just left it. The fields are those of the layout, which FieldsAreTheNamedBits states. -/
def Obligations.PsGroupResult : Prop :=
  ∀ mk ∈ psRows, ∀ (x : Payload) (s : State),
    let f := psFields x
    let addr := f.addr.toNat
    ∃ t, exec (mk x) s = .next t ∧
      t.committed.header = { pi := x.pi, tp := x.tp, pty := x.pty } ∧
      t.committed.flags = { ta := f.ta, ms := f.ms } ∧
      (∀ i, i < 8 → byteAt t.scratch.ps i =
        if i = 2 * addr then f.c0
        else if i = 2 * addr + 1 then f.c1
        else byteAt s.scratch.ps i) ∧
      (∀ i, i < 4 → t.scratch.di.getLsbD i = if i = 3 - addr then f.di else s.scratch.di.getLsbD i) ∧
      t.committed.name =
        (if addr = 3 then { ps := t.scratch.ps, di := t.scratch.di, valid := true } else s.committed.name)

/-- The frame of 0A and 0B: radiotext, clock, tags, Title, Artist, RT_SCR and RT_SCR_FLAG keep their values, the window
reads as before outside the header, FLAGS, DI and PS bytes, and so do FLAGS bits 4 to 7. -/
def Obligations.PsGroupFrame : Prop :=
  ∀ mk ∈ psRows, ∀ (x : Payload) (s : State), ∃ t, exec (mk x) s = .next t ∧
    t.committed.text = s.committed.text ∧ t.committed.clock = s.committed.clock ∧
    t.committed.tag0 = s.committed.tag0 ∧ t.committed.tag1 = s.committed.tag1 ∧
    t.committed.title = s.committed.title ∧ t.committed.artist = s.committed.artist ∧
    t.scratch.rt = s.scratch.rt ∧ t.scratch.rtFlag = s.scratch.rtFlag ∧ SameInterface s t ∧
    WindowSameOutside ([0x000, 0x001, 0x002, 0x003, 0x004] ++ addressRange 0x018 8) s t ∧
    (∀ i, 4 ≤ i → (window t.committed 0x003).getLsbD i = (window s.committed 0x003).getLsbD i)

/-- R116: within a window the committed name and DI do not depend on the order in which addresses 0, 1 and 2 arrived, only on
the last segment each address delivered. -/
def Obligations.PsWindowIsOrderIndependent : Prop :=
  ∀ (s : State) (xs ys : List (Bit × Payload)) (z : Bit × Payload),
    let row : Bit × Payload → Instr := fun p => if p.1 then .grp0B p.2 else .grp0A p.2
    let addr : Bit × Payload → BitVec 2 := fun p => p.2.gs.extractLsb' 0 2
    let last : List (Bit × Payload) → BitVec 2 → Option (Word × Bit) :=
      fun l a => ((l.filter fun p => addr p == a).getLast?).map fun p => (p.2.d, p.2.gs.getLsbD 2)
    (∀ p ∈ xs, addr p ≠ 3) → (∀ p ∈ ys, addr p ≠ 3) → addr z = 3 → (∀ a, last xs a = last ys a) →
    ∃ t u, runInstrs (xs.map row ++ [row z]) s = .next t ∧ runInstrs (ys.map row ++ [row z]) s = .next u ∧
      t.committed.name = u.committed.name

/-- R117, R118, R197: an address-3 group that arrives while PS_SCR and DI_SCR are still 0, as they are after reset, commits
0x00 in the six slots it does not carry, 0 in the three DI bits it does not carry, and PS_VALID. -/
def Obligations.LoneAddressThreeCommitsZeros : Prop :=
  ∀ mk ∈ psRows, ∀ (x : Payload) (s : State), x.gs.extractLsb' 0 2 = 3 →
    (∀ i, i < 8 → byteAt s.scratch.ps i = 0x00) → s.scratch.di = 0 →
    ∃ t, exec (mk x) s = .next t ∧ t.committed.name.valid = true ∧
      (∀ i, i < 6 → byteAt t.committed.name.ps i = 0x00) ∧
      byteAt t.committed.name.ps 6 = x.d.extractLsb' 8 8 ∧ byteAt t.committed.name.ps 7 = x.d.extractLsb' 0 8 ∧
      (∀ i, 1 ≤ i → t.committed.name.di.getLsbD i = false) ∧
      t.committed.name.di.getLsbD 0 = x.gs.getLsbD 2

/-! ### Radiotext, groups 2A and 2B -/

/-- R123 to R125: a 2A or 2B group completes from every state; it commits its header and records its flip flag; characters are
written in order from the segment's offset until a carriage return, in whose place 0x00 stands, and every other byte of RT_SCR
stays; the message is committed into RT[flip] when the segment held a carriage return or reached position 63, which only a 2A
group with address 15 does, and not otherwise. The fields are those of the layout (FieldsAreTheNamedBits). -/
def Obligations.RtGroupResult : Prop :=
  (∀ r ∈ [(Instr.grp2A, rtFields2A), (Instr.grp2B, rtFields2B)], ∀ (x : Payload) (s : State),
    let flip := (r.2 x).flip
    let off := (r.2 x).off
    let seg := (r.2 x).seg
    ∃ t, exec (r.1 x) s = .next t ∧
      t.committed.header = { pi := x.pi, tp := x.tp, pty := x.pty } ∧ t.scratch.rtFlag = flip ∧
      (∀ p, p < 64 → byteAt t.scratch.rt p =
        if off ≤ p ∧ p < off + seg.length ∧ (0x0D : Byte) ∉ seg.take (p - off) then
          (if seg[p - off]? = some 0x0D then 0x00 else (seg[p - off]?).getD 0x00)
        else byteAt s.scratch.rt p) ∧
      (if (0x0D : Byte) ∈ seg ∨ off + seg.length = 64 then
        t.committed.text.bank flip = t.scratch.rt ∧ t.committed.text.validOf flip = true ∧
        t.committed.text.flag = flip ∧
        t.committed.text.bank (!flip) = s.committed.text.bank (!flip) ∧
        t.committed.text.validOf (!flip) = s.committed.text.validOf (!flip)
      else t.committed.text = s.committed.text)) ∧
  (∀ x : Payload, ((rtFields2A x).off + (rtFields2A x).seg.length = 64 ↔ rtAddrOf x = 15) ∧
    (rtFields2B x).off + (rtFields2B x).seg.length ≤ 32)

/-- R128: a 2B group never writes positions 32 to 63, so it completes a message by a carriage return alone, and the bytes that
an earlier message left there are carried into its commit (R129). -/
def Obligations.VersionBKeepsTheUpperHalf : Prop :=
  ∀ (x : Payload) (s : State), ∃ t, exec (.grp2B x) s = .next t ∧
    (∀ p, 32 ≤ p → byteAt t.scratch.rt p = byteAt s.scratch.rt p) ∧
    ((0x0D : Byte) ∉ (rtFields2B x).seg → t.committed.text = s.committed.text) ∧
    ((0x0D : Byte) ∈ (rtFields2B x).seg → ∀ p, 32 ≤ p →
      byteAt (t.committed.text.bank (x.gs.getLsbD 4)) p = byteAt s.scratch.rt p)

/-- The frame of 2A and 2B: TA, MS, name, clock, tags, Title, Artist (R157), PS_SCR and DI_SCR keep their values, and the
window reads as before outside the header, FLAGS and the bytes of the variant that the group's flip flag names; and where
the message does not complete, outside the header and FLAGS alone. -/
def Obligations.RtGroupFrame : Prop :=
  ∀ r ∈ [(Instr.grp2A, rtFields2A), (Instr.grp2B, rtFields2B)], ∀ (x : Payload) (s : State),
    ∃ t, exec (r.1 x) s = .next t ∧
      t.committed.flags = s.committed.flags ∧ t.committed.name = s.committed.name ∧
      t.committed.clock = s.committed.clock ∧ t.committed.tag0 = s.committed.tag0 ∧
      t.committed.tag1 = s.committed.tag1 ∧ t.committed.title = s.committed.title ∧
      t.committed.artist = s.committed.artist ∧ t.scratch.ps = s.scratch.ps ∧ t.scratch.di = s.scratch.di ∧
      SameInterface s t ∧
      WindowSameOutside ([0x000, 0x001, 0x002, 0x003] ++
        addressRange (if x.gs.getLsbD 4 then 0x080 else 0x040) 64) s t ∧
      ((0x0D : Byte) ∉ (r.2 x).seg → (r.2 x).off + (r.2 x).seg.length < 64 →
        WindowSameOutside [0x000, 0x001, 0x002, 0x003] s t)

/-- R130: a completed message goes into the variant of the group that completes it, whatever flip value earlier segments
carried, and the other variant keeps its message; a segment of an earlier group, of either version, is in the committed text
where the completing one did not address its bytes. -/
def Obligations.CompletingGroupNamesTheVariant : Prop :=
  ∀ r ∈ [(Instr.grp2A, rtFields2A), (Instr.grp2B, rtFields2B)],
  ∀ q ∈ [(Instr.grp2A, rtFields2A), (Instr.grp2B, rtFields2B)], ∀ (x y : Payload) (s : State),
    let f := r.2 x
    let g := q.2 y
    (0x0D : Byte) ∉ f.seg → f.off + f.seg.length < 64 → (0x0D : Byte) ∈ g.seg →
    ∃ t, runInstrs [r.1 x, q.1 y] s = .next t ∧
      t.committed.text.validOf g.flip = true ∧ t.committed.text.flag = g.flip ∧
      t.committed.text.bank g.flip = t.scratch.rt ∧
      t.committed.text.bank (!g.flip) = s.committed.text.bank (!g.flip) ∧
      (f.off + f.seg.length ≤ g.off ∨ g.off + g.seg.length ≤ f.off → ∀ i, i < f.seg.length →
        byteAt (t.committed.text.bank g.flip) (f.off + i) = (f.seg[i]?).getD 0x00)

/-! ### Clock time, group 4A -/

/-- R136, R137: a 4A group completes from every state; with hour < 24 and minute < 60 it commits its header and all the
clock-time registers with CT_VALID, and otherwise its header alone. Nothing else changes. The fields are those of the layout
(FieldsAreTheNamedBits). -/
def Obligations.ClockGroupResult : Prop :=
  ∀ (x : Payload) (s : State),
    let f := ctFields x
    let header : Header := { pi := x.pi, tp := x.tp, pty := x.pty }
    let date := mjdToYmd f.mjd.toNat
    exec (.grp4A x) s = .next { s with committed :=
      if f.hour.toNat < 24 ∧ f.minute.toNat < 60 then
        { s.committed with
          header := header
          clock := { valid := true, year := BitVec.ofNat 16 date.year, month := BitVec.ofNat 4 date.month,
                     day := BitVec.ofNat 5 date.day, hour := f.hour, minute := f.minute,
                     offset := offsetOf f.osign f.omag } }
      else { s.committed with header := header } }

/-- R81, R139: the stored offset is the sign-magnitude value in two's complement, and the window sign-extends it. -/
def Obligations.OffsetIsSignedHalfHours : Prop :=
  ∀ (osign : Bit) (omag : BitVec 5) (m : Committed), m.clock.offset = offsetOf osign omag →
    m.clock.offset.toInt = (if osign then -(omag.toNat : Int) else (omag.toNat : Int)) ∧
    (window m 0x009).toInt = m.clock.offset.toInt

/-- R142, R144: day count 0 is 1858-11-17, consecutive day counts give consecutive dates of the proleptic-Gregorian
calendar, and day count 131071 is 2217-09-27. -/
def Obligations.ConsecutiveDayCountsAreConsecutiveDates : Prop :=
  mjdToYmd 0 = { year := 1858, month := 11, day := 17 } ∧
  (∀ n, n < 131071 → mjdToYmd (n + 1) = nextDate (mjdToYmd n)) ∧
  mjdToYmd 131071 = { year := 2217, month := 9, day := 27 }

/-- R144, R32: every day count converts to a valid date of a year 1858 to 2217, so the clock registers hold it whole. -/
def Obligations.EveryDayCountIsAValidDate : Prop :=
  ∀ n, n < 131072 → (mjdToYmd n).wf = true ∧ 1858 ≤ (mjdToYmd n).year ∧ (mjdToYmd n).year ≤ 2217 ∧
    (BitVec.ofNat 16 (mjdToYmd n).year).toNat = (mjdToYmd n).year ∧
    (BitVec.ofNat 4 (mjdToYmd n).month).toNat = (mjdToYmd n).month ∧
    (BitVec.ofNat 5 (mjdToYmd n).day).toNat = (mjdToYmd n).day

/-- The frame of 4A: every register but the header and the clock keeps its value, and the window reads as before outside
the header, FLAGS and clock bytes; after a rejected sample the clock bytes do too (the last known good sample). -/
def Obligations.ClockGroupFrame : Prop :=
  ∀ (x : Payload) (s : State), ∃ t, exec (.grp4A x) s = .next t ∧
    t.committed.flags = s.committed.flags ∧ t.committed.name = s.committed.name ∧
    t.committed.text = s.committed.text ∧ t.committed.tag0 = s.committed.tag0 ∧
    t.committed.tag1 = s.committed.tag1 ∧ t.committed.title = s.committed.title ∧
    t.committed.artist = s.committed.artist ∧ t.scratch = s.scratch ∧ SameInterface s t ∧
    WindowSameOutside ([0x000, 0x001, 0x002, 0x003] ++ addressRange 0x005 7) s t ∧
    (24 ≤ (ctFields x).hour.toNat ∨ 60 ≤ (ctFields x).minute.toNat →
      t.committed.clock = s.committed.clock ∧ WindowSameOutside [0x000, 0x001, 0x002, 0x003] s t)

/-! ### RT+, the row whose pair is RTP_GROUP -/

/-- R150: an RT+ group whose running flag is 0 completes from every state and commits its header alone. -/
def Obligations.RtPlusNotRunningCommitsOnlyTheHeader : Prop :=
  ∀ r ∈ openRows, ∀ (x : Payload) (s : State), s.cfg.isRtp r.1 r.2.1 = true → x.gs.getLsbD 4 = false →
    exec (r.2.2 x) s = .next { s with committed := { s.committed with
      header := { pi := x.pi, tp := x.tp, pty := x.pty } } }

/-- R152 to R155: a running RT+ group, of whichever row the configuration makes RT+, completes from every state; each
tag with start + length ≤ 64 is written to its TAG register, and copies its span of RT[RT_FLAG] into Title or Artist if
its content type is that code, tag 1 after tag 0; a tag out of bounds changes nothing. -/
def Obligations.RtPlusRunningResult : Prop :=
  ∀ r ∈ openRows, ∀ (x : Payload) (s : State), s.cfg.isRtp r.1 r.2.1 = true → x.gs.getLsbD 4 = true →
    let t0 := (rtpFields x).tag0
    let t1 := (rtpFields x).tag1
    let in0 := t0.start.toNat + t0.len.toNat ≤ 64
    let in1 := t1.start.toNat + t1.len.toNat ≤ 64
    ∃ t, exec (r.2.2 x) s = .next t ∧
      t.committed.header = { pi := x.pi, tp := x.tp, pty := x.pty } ∧
      t.committed.tag0 = (if in0 then t0 else s.committed.tag0) ∧
      t.committed.tag1 = (if in1 then t1 else s.committed.tag1) ∧
      (∀ i, i < 64 → byteAt t.committed.title i =
        if in1 ∧ t1.ctype = s.cfg.ctTitle then spanByte s.committed t1 i
        else if in0 ∧ t0.ctype = s.cfg.ctTitle then spanByte s.committed t0 i
        else byteAt s.committed.title i) ∧
      (∀ i, i < 64 → byteAt t.committed.artist i =
        if in1 ∧ t1.ctype ≠ s.cfg.ctTitle ∧ t1.ctype = s.cfg.ctArtist then spanByte s.committed t1 i
        else if in0 ∧ t0.ctype ≠ s.cfg.ctTitle ∧ t0.ctype = s.cfg.ctArtist then spanByte s.committed t0 i
        else byteAt s.committed.artist i)

/-- The frame of an RT+ group: TA, MS, name, radiotext, clock and every scratch register keep their values, and the window
reads as before outside the header, FLAGS, tag, Title and Artist bytes; FLAGS changes in bit 0 alone. -/
def Obligations.RtPlusFrame : Prop :=
  ∀ r ∈ openRows, ∀ (x : Payload) (s : State), s.cfg.isRtp r.1 r.2.1 = true →
    ∃ t, exec (r.2.2 x) s = .next t ∧
      t.committed.flags = s.committed.flags ∧ t.committed.name = s.committed.name ∧
      t.committed.text = s.committed.text ∧ t.committed.clock = s.committed.clock ∧ t.scratch = s.scratch ∧
      SameInterface s t ∧
      WindowSameOutside ([0x000, 0x001, 0x002, 0x003, 0x00C, 0x00D, 0x00E, 0x010, 0x011, 0x012] ++
        addressRange 0x0C0 128) s t ∧
      (∀ i, 1 ≤ i → (window t.committed 0x003).getLsbD i = (window s.committed 0x003).getLsbD i)

/-- R158: before any radiotext has committed since reset, an in-bounds Title or Artist tag gives the empty string. -/
def Obligations.ExtractionBeforeAnyTextIsEmpty : Prop :=
  ∀ r ∈ openRows, ∀ (x : Payload) (s : State), s.cfg.isRtp r.1 r.2.1 = true →
    (∀ i, byteAt (s.committed.text.bank s.committed.text.flag) i = 0x00) →
    titleOf s.committed = [] → artistOf s.committed = [] →
    ∃ t, exec (r.2.2 x) s = .next t ∧ titleOf t.committed = [] ∧ artistOf t.committed = []

/-! ### IDLE, the handshake and the clock -/

/-- R169: IDLE completes from every state and changes nothing, whether or not a group waits. -/
def Obligations.IdleChangesNothing : Prop :=
  ∀ (waiting : Option RdsGroup) (s : State), exec (.idle waiting) s = .next s

/-- A step runs the decoded instruction: with no APPLY in progress, the operation that the host's next input requests, its input
taken off the list; with no input left, an IDLE. -/
def Obligations.StepRunsTheRequestedInstruction : Prop :=
  ∀ (s : State), s.cfg.wf = true → s.inFlight = none →
    (∀ (e : Edge) (rest : List Input), s.inputs = .edge e :: rest → e.rstN = true → e.extra = 0 →
      step s = exec (decode (.ctrl (ctrlOf e) true e.words)) { s with inputs := rest }) ∧
    (∀ (addr : BitVec 9) (rest : List Input), s.inputs = .read addr :: rest →
      step s = exec (decode (.rdport addr)) { s with inputs := rest }) ∧
    (s.inputs = [] → step s = exec (.idle none) s)

/-- R42, R179: an edge with `soft_reset` = 1 leaves every register 0 and no APPLY in progress, whatever is in progress and
whether or not a group is presented: the presented group is consumed and discarded, the one in progress cancelled. -/
def Obligations.SoftResetWinsAndCancels : Prop :=
  ∀ (s : State) (e : Edge) (rest : List Input), s.cfg.wf = true → s.inputs = .edge e :: rest → e.rstN = true →
    e.softReset = true →
    (e.grpValid = true → consumes e s = true) ∧
    ∃ t, step s = .next t ∧ CommittedZero t.committed ∧ ScratchZero t.scratch ∧ t.inFlight = none ∧ t.inputs = rest

/-- R43, R179: while `rst_n` is 0 every register holds its reset value, no group is consumed and `grp_ready` is 0,
whatever else is requested. -/
def Obligations.PowerUpResetWinsOverEverything : Prop :=
  ∀ (s : State) (e : Edge) (rest : List Input), s.cfg.wf = true → s.inputs = .edge e :: rest → e.rstN = false →
    grpReady e s = false ∧ consumes e s = false ∧
    ∃ t, step s = .next t ∧ CommittedZero t.committed ∧ ScratchZero t.scratch ∧ t.inFlight = none ∧ t.inputs = rest

/-- R45: while `rst_n` is 1 and no RESET is requested, `grp_ready` is 1 exactly when no APPLY is in progress; and where every
group has latency 1 none is ever in progress after a step, so it stays 1. -/
def Obligations.ReadyUnlessAnApplyIsInProgress : Prop :=
  (∀ (e : Edge) (s : State), e.rstN = true → e.softReset = false → (grpReady e s = true ↔ s.inFlight = none)) ∧
  (∀ (e : Edge) (s : State), e.rstN = true → s.inFlight = none → grpReady e s = true) ∧
  (∀ s t : State, s.inFlight = none → (∀ e, Input.edge e ∈ s.inputs → e.extra = 0) → step s = .next t →
    t.inFlight = none)

/-- R41, R45: a group taken with a latency above 1 changes no register yet; `grp_ready` is then 0 for a host that requests
no RESET, and READs see the state before the APPLY. -/
def Obligations.AcceptedGroupIsNotYetVisible : Prop :=
  ∀ (s : State) (g : RdsGroup) (extra : Nat) (rest : List Input), s.cfg.wf = true → s.inFlight = none →
    s.inputs = .edge (groupEdge g (extra + 1)) :: rest →
    ∃ t, step s = .next t ∧ t.committed = s.committed ∧ t.scratch = s.scratch ∧ t.inputs = rest ∧
      t.inFlight = some { group := g, left := extra + 1 } ∧
      ∀ e : Edge, e.softReset = false → grpReady e t = false

/-- R41, R52: an APPLY takes effect, whole, after its latency: `extra` further cycles of an idle host give the state that
running it at once gives, and until the last of them no register changes. -/
def Obligations.ApplyLandsWholeAfterItsLatency : Prop :=
  ∀ (s : State) (g : RdsGroup) (extra : Nat) (rest : List Input), s.cfg.wf = true → s.inFlight = none →
    s.inputs = groupInputs g extra ++ rest →
    Host.Core.run Sys2Proof.core (extra + 1) s = exec (.apply g) { s with inputs := rest } ∧
    ∀ k, k ≤ extra → ∃ t, Host.Core.run Sys2Proof.core k s = .next t ∧
      t.committed = s.committed ∧ t.scratch = s.scratch

/-- R10, R19, R61: no architectural value depends on APPLY_LATENCY: a stream of groups, each with a latency of its own that
travels with its edge (the model's choice, log entry 2), leaves the state that applying them one after another leaves. -/
def Obligations.LatencyIsNotObservable : Prop :=
  ∀ (s : State) (gs : List (RdsGroup × Nat)), s.cfg.wf = true → s.inFlight = none →
    s.inputs = streamInputs gs →
    Host.Core.run Sys2Proof.core (streamInputs gs).length s =
      runInstrs (gs.map fun p => .apply p.1) { s with inputs := [] }

/-- R41, R72: a group presented while another is in progress waits, and a host that holds its words has it applied next, after
the one in progress. -/
def Obligations.WaitingGroupIsAppliedNext : Prop :=
  ∀ (s : State) (g h : RdsGroup) (n : Nat) (rest : List Input), s.cfg.wf = true →
    s.inFlight = some { group := g, left := n + 1 } →
    s.inputs = List.replicate (n + 2) (.edge (groupEdge h 0)) ++ rest →
    Host.Core.run Sys2Proof.core (n + 2) s =
      runInstrs [.apply g, .apply h] { s with inFlight := none, inputs := rest }

/-- R170, R185: no register changes while the host requests nothing, however many idle edges and READs pass. -/
def Obligations.CommittedDataDoesNotExpire : Prop :=
  ∀ (s : State), s.cfg.wf = true → s.inFlight = none → (∀ i ∈ s.inputs, i.requestsNothing = true) →
    ∃ t, Host.Core.run Sys2Proof.core s.inputs.length s = .next t ∧ t.committed = s.committed ∧
      t.scratch = s.scratch ∧ t.inFlight = none ∧ t.inputs = []

/-! ### Rules of the whole machine -/

/-- R90, R175: every instruction completes from every state: no operation raises a fault and none is refused. -/
def Obligations.EveryInstructionCompletes : Prop :=
  ∀ (i : Instr) (s : State), ∃ t, exec i s = .next t

/-- R10 (D38), R175: a step is refused exactly under an illegal configuration, and otherwise it answers a next state. -/
def Obligations.StepRefusesOnlyIllegalConfigurations : Prop :=
  ∀ s : State, (s.cfg.wf = true → ∃ t, step s = .next t) ∧
    (s.cfg.wf = false → step s = .refused .illegalConfiguration)

/-- R10 (D38): the configurations a model takes: RTP_GROUP none of the five fixed pairs, and the two codes different. -/
def Obligations.LegalConfigurations : Prop :=
  ∀ k : Config, k.wf = true ↔
    (k.rtpType, k.rtpVersion) ∉ [((0 : BitVec 4), false), (0, true), (2, false), (2, true), (4, false)] ∧
    k.ctTitle ≠ k.ctArtist

/-- R49(a): outside RESET each register changes only by a row of its own rule: the flags by a 0A or 0B group, the name by one
at address 3, the scratch of PS by 0A and 0B and that of RT by 2A and 2B, the radiotext by a 2A or 2B group that completes, the
clock by an accepted 4A group, and tags, Title and Artist by a running RT+ group. -/
def Obligations.RegistersChangeOnlyByTheirOwnRule : Prop :=
  ∀ (i : Instr) (s t : State), exec i s = .next t → (∀ d, i ≠ .reset d) →
    (t.committed.flags ≠ s.committed.flags ∨ t.scratch.ps ≠ s.scratch.ps ∨ t.scratch.di ≠ s.scratch.di →
      ∃ mk ∈ psRows, ∃ x, rowInstr i = mk x) ∧
    (t.committed.name ≠ s.committed.name →
      ∃ mk ∈ psRows, ∃ x, rowInstr i = mk x ∧ x.gs.extractLsb' 0 2 = 3) ∧
    (t.scratch.rt ≠ s.scratch.rt ∨ t.scratch.rtFlag ≠ s.scratch.rtFlag →
      ∃ mk ∈ [Instr.grp2A, Instr.grp2B], ∃ x, rowInstr i = mk x) ∧
    (t.committed.text ≠ s.committed.text →
      ∃ r ∈ [(Instr.grp2A, rtFields2A), (Instr.grp2B, rtFields2B)], ∃ x, rowInstr i = r.1 x ∧
        ((0x0D : Byte) ∈ (r.2 x).seg ∨ (r.2 x).off + (r.2 x).seg.length = 64)) ∧
    (t.committed.clock ≠ s.committed.clock →
      ∃ x, rowInstr i = .grp4A x ∧ (ctFields x).hour.toNat < 24 ∧ (ctFields x).minute.toNat < 60) ∧
    (t.committed.tag0 ≠ s.committed.tag0 ∨ t.committed.tag1 ≠ s.committed.tag1 ∨
      t.committed.title ≠ s.committed.title ∨ t.committed.artist ≠ s.committed.artist →
      ∃ r ∈ openRows, ∃ x, rowInstr i = r.2.2 x ∧ s.cfg.isRtp r.1 r.2.1 = true ∧ x.gs.getLsbD 4 = true)

/-- R49(d): a valid bit once 1 stays 1 until RESET. -/
def Obligations.ValidBitsStaySet : Prop :=
  ∀ (i : Instr) (s t : State), exec i s = .next t → (∀ d, i ≠ .reset d) →
    (s.committed.name.valid = true → t.committed.name.valid = true) ∧
    (s.committed.text.valid0 = true → t.committed.text.valid0 = true) ∧
    (s.committed.text.valid1 = true → t.committed.text.valid1 = true) ∧
    (s.committed.clock.valid = true → t.committed.clock.valid = true)

/-- R20, R35 to R38, R60: scratch is never externally visible: two states that differ in scratch alone leave the same
committed state, and so the same window, after every instruction that commits no scratch: all but a type-0 group at
address 3 and a radiotext group that completes. -/
def Obligations.ScratchIsHiddenUntilACommit : Prop :=
  ∀ (i : Instr) (s : State) (other : Scratch),
    (∀ mk ∈ psRows, ∀ x, rowInstr i = mk x → x.gs.extractLsb' 0 2 ≠ 3) →
    (∀ r ∈ [(Instr.grp2A, rtFields2A), (Instr.grp2B, rtFields2B)], ∀ x, rowInstr i = r.1 x →
      (0x0D : Byte) ∉ (r.2 x).seg ∧ (r.2 x).off + (r.2 x).seg.length < 64) →
    ∃ t u, exec i s = .next t ∧ exec i { s with scratch := other } = .next u ∧ t.committed = u.committed

/-- The invariant holds after reset: the default configuration is legal, no clock sample is valid, the tags are 0 and no APPLY
is in progress. -/
def Obligations.InvariantHoldsAtReset : Prop := State.reset.Inv ∧ ClockDateValid State.reset.committed

/-- R49(b), R49(c): every step from a state that meets the invariant gives one that meets it: a valid clock sample has
hour < 24 and minute < 60, the span of each tag lies within 64 bytes, the configuration stays legal and an APPLY in progress
is still to land. -/
def Obligations.EveryStepKeepsTheInvariant : Prop :=
  ∀ s t : State, s.Inv → step s = .next t → t.Inv

/-- R49(b): every step keeps a valid clock sample's date a valid proleptic-Gregorian date. -/
def Obligations.EveryStepKeepsTheDateValid : Prop :=
  ∀ s t : State, ClockDateValid s.committed → step s = .next t → ClockDateValid t.committed

/-- R10, R22: no step changes the build-time parameters. -/
def Obligations.NoStepChangesTheConfiguration : Prop :=
  ∀ s t : State, step s = .next t → t.cfg = s.cfg
end

