-- ==== Sys2Proof/Laws/State.lean ====
section
/-! SUPPORT. What each state update does to each field: one lemma per field per update, true by unfolding, so
that no later proof unfolds a record update. An update that leaves all committed (or all scratch) registers
alone has one lemma for them together. -/

namespace Sys2Proof.Machine

/-! ### `State.commitHeader` -/

@[simp] theorem State.commitHeader_header (s : State) (pi : Word) (tp : Bit) (pty : BitVec 5) :
    (s.commitHeader pi tp pty).committed.header = { pi := pi, tp := tp, pty := pty } := rfl
@[simp] theorem State.commitHeader_flags (s : State) (pi : Word) (tp : Bit) (pty : BitVec 5) :
    (s.commitHeader pi tp pty).committed.flags = s.committed.flags := rfl
@[simp] theorem State.commitHeader_name (s : State) (pi : Word) (tp : Bit) (pty : BitVec 5) :
    (s.commitHeader pi tp pty).committed.name = s.committed.name := rfl
@[simp] theorem State.commitHeader_text (s : State) (pi : Word) (tp : Bit) (pty : BitVec 5) :
    (s.commitHeader pi tp pty).committed.text = s.committed.text := rfl
@[simp] theorem State.commitHeader_clock (s : State) (pi : Word) (tp : Bit) (pty : BitVec 5) :
    (s.commitHeader pi tp pty).committed.clock = s.committed.clock := rfl
@[simp] theorem State.commitHeader_tag0 (s : State) (pi : Word) (tp : Bit) (pty : BitVec 5) :
    (s.commitHeader pi tp pty).committed.tag0 = s.committed.tag0 := rfl
@[simp] theorem State.commitHeader_tag1 (s : State) (pi : Word) (tp : Bit) (pty : BitVec 5) :
    (s.commitHeader pi tp pty).committed.tag1 = s.committed.tag1 := rfl
@[simp] theorem State.commitHeader_title (s : State) (pi : Word) (tp : Bit) (pty : BitVec 5) :
    (s.commitHeader pi tp pty).committed.title = s.committed.title := rfl
@[simp] theorem State.commitHeader_artist (s : State) (pi : Word) (tp : Bit) (pty : BitVec 5) :
    (s.commitHeader pi tp pty).committed.artist = s.committed.artist := rfl
@[simp] theorem State.commitHeader_scratch (s : State) (pi : Word) (tp : Bit) (pty : BitVec 5) :
    (s.commitHeader pi tp pty).scratch = s.scratch := rfl
@[simp] theorem State.commitHeader_inFlight (s : State) (pi : Word) (tp : Bit) (pty : BitVec 5) :
    (s.commitHeader pi tp pty).inFlight = s.inFlight := rfl
@[simp] theorem State.commitHeader_rdAddr (s : State) (pi : Word) (tp : Bit) (pty : BitVec 5) :
    (s.commitHeader pi tp pty).rdAddr = s.rdAddr := rfl
@[simp] theorem State.commitHeader_inputs (s : State) (pi : Word) (tp : Bit) (pty : BitVec 5) :
    (s.commitHeader pi tp pty).inputs = s.inputs := rfl
@[simp] theorem State.commitHeader_cfg (s : State) (pi : Word) (tp : Bit) (pty : BitVec 5) :
    (s.commitHeader pi tp pty).cfg = s.cfg := rfl

/-! ### `State.commitFlags` -/

@[simp] theorem State.commitFlags_header (s : State) (ta ms : Bit) :
    (s.commitFlags ta ms).committed.header = s.committed.header := rfl
@[simp] theorem State.commitFlags_flags (s : State) (ta ms : Bit) :
    (s.commitFlags ta ms).committed.flags = { ta := ta, ms := ms } := rfl
@[simp] theorem State.commitFlags_name (s : State) (ta ms : Bit) :
    (s.commitFlags ta ms).committed.name = s.committed.name := rfl
@[simp] theorem State.commitFlags_text (s : State) (ta ms : Bit) :
    (s.commitFlags ta ms).committed.text = s.committed.text := rfl
@[simp] theorem State.commitFlags_clock (s : State) (ta ms : Bit) :
    (s.commitFlags ta ms).committed.clock = s.committed.clock := rfl
@[simp] theorem State.commitFlags_tag0 (s : State) (ta ms : Bit) :
    (s.commitFlags ta ms).committed.tag0 = s.committed.tag0 := rfl
@[simp] theorem State.commitFlags_tag1 (s : State) (ta ms : Bit) :
    (s.commitFlags ta ms).committed.tag1 = s.committed.tag1 := rfl
@[simp] theorem State.commitFlags_title (s : State) (ta ms : Bit) :
    (s.commitFlags ta ms).committed.title = s.committed.title := rfl
@[simp] theorem State.commitFlags_artist (s : State) (ta ms : Bit) :
    (s.commitFlags ta ms).committed.artist = s.committed.artist := rfl
@[simp] theorem State.commitFlags_scratch (s : State) (ta ms : Bit) :
    (s.commitFlags ta ms).scratch = s.scratch := rfl
@[simp] theorem State.commitFlags_inFlight (s : State) (ta ms : Bit) :
    (s.commitFlags ta ms).inFlight = s.inFlight := rfl
@[simp] theorem State.commitFlags_rdAddr (s : State) (ta ms : Bit) :
    (s.commitFlags ta ms).rdAddr = s.rdAddr := rfl
@[simp] theorem State.commitFlags_inputs (s : State) (ta ms : Bit) :
    (s.commitFlags ta ms).inputs = s.inputs := rfl
@[simp] theorem State.commitFlags_cfg (s : State) (ta ms : Bit) :
    (s.commitFlags ta ms).cfg = s.cfg := rfl

/-! ### `State.writePsSegment` -/

@[simp] theorem State.writePsSegment_committed (s : State) (addr : BitVec 2) (c0 c1 : Byte) (di : Bit) :
    (s.writePsSegment addr c0 c1 di).committed = s.committed := rfl
@[simp] theorem State.writePsSegment_scratch_ps (s : State) (addr : BitVec 2) (c0 c1 : Byte) (di : Bit) :
    (s.writePsSegment addr c0 c1 di).scratch.ps = putByte (putByte s.scratch.ps (2 * addr.toNat) c0) (2 * addr.toNat + 1) c1 := rfl
@[simp] theorem State.writePsSegment_scratch_di (s : State) (addr : BitVec 2) (c0 c1 : Byte) (di : Bit) :
    (s.writePsSegment addr c0 c1 di).scratch.di = setDiBit s.scratch.di (3 - addr.toNat) di := rfl
@[simp] theorem State.writePsSegment_scratch_rt (s : State) (addr : BitVec 2) (c0 c1 : Byte) (di : Bit) :
    (s.writePsSegment addr c0 c1 di).scratch.rt = s.scratch.rt := rfl
@[simp] theorem State.writePsSegment_scratch_rtFlag (s : State) (addr : BitVec 2) (c0 c1 : Byte) (di : Bit) :
    (s.writePsSegment addr c0 c1 di).scratch.rtFlag = s.scratch.rtFlag := rfl
@[simp] theorem State.writePsSegment_inFlight (s : State) (addr : BitVec 2) (c0 c1 : Byte) (di : Bit) :
    (s.writePsSegment addr c0 c1 di).inFlight = s.inFlight := rfl
@[simp] theorem State.writePsSegment_rdAddr (s : State) (addr : BitVec 2) (c0 c1 : Byte) (di : Bit) :
    (s.writePsSegment addr c0 c1 di).rdAddr = s.rdAddr := rfl
@[simp] theorem State.writePsSegment_inputs (s : State) (addr : BitVec 2) (c0 c1 : Byte) (di : Bit) :
    (s.writePsSegment addr c0 c1 di).inputs = s.inputs := rfl
@[simp] theorem State.writePsSegment_cfg (s : State) (addr : BitVec 2) (c0 c1 : Byte) (di : Bit) :
    (s.writePsSegment addr c0 c1 di).cfg = s.cfg := rfl

/-! ### `State.commitName` -/

@[simp] theorem State.commitName_header (s : State) :
    (s.commitName).committed.header = s.committed.header := rfl
@[simp] theorem State.commitName_flags (s : State) :
    (s.commitName).committed.flags = s.committed.flags := rfl
@[simp] theorem State.commitName_name (s : State) :
    (s.commitName).committed.name = { ps := s.scratch.ps, di := s.scratch.di, valid := true } := rfl
@[simp] theorem State.commitName_text (s : State) :
    (s.commitName).committed.text = s.committed.text := rfl
@[simp] theorem State.commitName_clock (s : State) :
    (s.commitName).committed.clock = s.committed.clock := rfl
@[simp] theorem State.commitName_tag0 (s : State) :
    (s.commitName).committed.tag0 = s.committed.tag0 := rfl
@[simp] theorem State.commitName_tag1 (s : State) :
    (s.commitName).committed.tag1 = s.committed.tag1 := rfl
@[simp] theorem State.commitName_title (s : State) :
    (s.commitName).committed.title = s.committed.title := rfl
@[simp] theorem State.commitName_artist (s : State) :
    (s.commitName).committed.artist = s.committed.artist := rfl
@[simp] theorem State.commitName_scratch (s : State) :
    (s.commitName).scratch = s.scratch := rfl
@[simp] theorem State.commitName_inFlight (s : State) :
    (s.commitName).inFlight = s.inFlight := rfl
@[simp] theorem State.commitName_rdAddr (s : State) :
    (s.commitName).rdAddr = s.rdAddr := rfl
@[simp] theorem State.commitName_inputs (s : State) :
    (s.commitName).inputs = s.inputs := rfl
@[simp] theorem State.commitName_cfg (s : State) :
    (s.commitName).cfg = s.cfg := rfl

/-! ### `State.writeRtScratch` -/

@[simp] theorem State.writeRtScratch_committed (s : State) (flip : Bit) (rt : Vector Byte 64) :
    (s.writeRtScratch flip rt).committed = s.committed := rfl
@[simp] theorem State.writeRtScratch_scratch_ps (s : State) (flip : Bit) (rt : Vector Byte 64) :
    (s.writeRtScratch flip rt).scratch.ps = s.scratch.ps := rfl
@[simp] theorem State.writeRtScratch_scratch_di (s : State) (flip : Bit) (rt : Vector Byte 64) :
    (s.writeRtScratch flip rt).scratch.di = s.scratch.di := rfl
@[simp] theorem State.writeRtScratch_scratch_rt (s : State) (flip : Bit) (rt : Vector Byte 64) :
    (s.writeRtScratch flip rt).scratch.rt = rt := rfl
@[simp] theorem State.writeRtScratch_scratch_rtFlag (s : State) (flip : Bit) (rt : Vector Byte 64) :
    (s.writeRtScratch flip rt).scratch.rtFlag = flip := rfl
@[simp] theorem State.writeRtScratch_inFlight (s : State) (flip : Bit) (rt : Vector Byte 64) :
    (s.writeRtScratch flip rt).inFlight = s.inFlight := rfl
@[simp] theorem State.writeRtScratch_rdAddr (s : State) (flip : Bit) (rt : Vector Byte 64) :
    (s.writeRtScratch flip rt).rdAddr = s.rdAddr := rfl
@[simp] theorem State.writeRtScratch_inputs (s : State) (flip : Bit) (rt : Vector Byte 64) :
    (s.writeRtScratch flip rt).inputs = s.inputs := rfl
@[simp] theorem State.writeRtScratch_cfg (s : State) (flip : Bit) (rt : Vector Byte 64) :
    (s.writeRtScratch flip rt).cfg = s.cfg := rfl

/-! ### `State.commitText` -/

@[simp] theorem State.commitText_header (s : State) (flip : Bit) :
    (s.commitText flip).committed.header = s.committed.header := rfl
@[simp] theorem State.commitText_flags (s : State) (flip : Bit) :
    (s.commitText flip).committed.flags = s.committed.flags := rfl
@[simp] theorem State.commitText_name (s : State) (flip : Bit) :
    (s.commitText flip).committed.name = s.committed.name := rfl
@[simp] theorem State.commitText_clock (s : State) (flip : Bit) :
    (s.commitText flip).committed.clock = s.committed.clock := rfl
@[simp] theorem State.commitText_tag0 (s : State) (flip : Bit) :
    (s.commitText flip).committed.tag0 = s.committed.tag0 := rfl
@[simp] theorem State.commitText_tag1 (s : State) (flip : Bit) :
    (s.commitText flip).committed.tag1 = s.committed.tag1 := rfl
@[simp] theorem State.commitText_title (s : State) (flip : Bit) :
    (s.commitText flip).committed.title = s.committed.title := rfl
@[simp] theorem State.commitText_artist (s : State) (flip : Bit) :
    (s.commitText flip).committed.artist = s.committed.artist := rfl
@[simp] theorem State.commitText_scratch (s : State) (flip : Bit) :
    (s.commitText flip).scratch = s.scratch := rfl
@[simp] theorem State.commitText_inFlight (s : State) (flip : Bit) :
    (s.commitText flip).inFlight = s.inFlight := rfl
@[simp] theorem State.commitText_rdAddr (s : State) (flip : Bit) :
    (s.commitText flip).rdAddr = s.rdAddr := rfl
@[simp] theorem State.commitText_inputs (s : State) (flip : Bit) :
    (s.commitText flip).inputs = s.inputs := rfl
@[simp] theorem State.commitText_cfg (s : State) (flip : Bit) :
    (s.commitText flip).cfg = s.cfg := rfl

/-! ### `State.commitClock` -/

@[simp] theorem State.commitClock_header (s : State) (t : ClockTime) :
    (s.commitClock t).committed.header = s.committed.header := rfl
@[simp] theorem State.commitClock_flags (s : State) (t : ClockTime) :
    (s.commitClock t).committed.flags = s.committed.flags := rfl
@[simp] theorem State.commitClock_name (s : State) (t : ClockTime) :
    (s.commitClock t).committed.name = s.committed.name := rfl
@[simp] theorem State.commitClock_text (s : State) (t : ClockTime) :
    (s.commitClock t).committed.text = s.committed.text := rfl
@[simp] theorem State.commitClock_clock (s : State) (t : ClockTime) :
    (s.commitClock t).committed.clock = t := rfl
@[simp] theorem State.commitClock_tag0 (s : State) (t : ClockTime) :
    (s.commitClock t).committed.tag0 = s.committed.tag0 := rfl
@[simp] theorem State.commitClock_tag1 (s : State) (t : ClockTime) :
    (s.commitClock t).committed.tag1 = s.committed.tag1 := rfl
@[simp] theorem State.commitClock_title (s : State) (t : ClockTime) :
    (s.commitClock t).committed.title = s.committed.title := rfl
@[simp] theorem State.commitClock_artist (s : State) (t : ClockTime) :
    (s.commitClock t).committed.artist = s.committed.artist := rfl
@[simp] theorem State.commitClock_scratch (s : State) (t : ClockTime) :
    (s.commitClock t).scratch = s.scratch := rfl
@[simp] theorem State.commitClock_inFlight (s : State) (t : ClockTime) :
    (s.commitClock t).inFlight = s.inFlight := rfl
@[simp] theorem State.commitClock_rdAddr (s : State) (t : ClockTime) :
    (s.commitClock t).rdAddr = s.rdAddr := rfl
@[simp] theorem State.commitClock_inputs (s : State) (t : ClockTime) :
    (s.commitClock t).inputs = s.inputs := rfl
@[simp] theorem State.commitClock_cfg (s : State) (t : ClockTime) :
    (s.commitClock t).cfg = s.cfg := rfl

/-! ### `State.commitTag0` -/

@[simp] theorem State.commitTag0_header (s : State) (t : Tag) :
    (s.commitTag0 t).committed.header = s.committed.header := rfl
@[simp] theorem State.commitTag0_flags (s : State) (t : Tag) :
    (s.commitTag0 t).committed.flags = s.committed.flags := rfl
@[simp] theorem State.commitTag0_name (s : State) (t : Tag) :
    (s.commitTag0 t).committed.name = s.committed.name := rfl
@[simp] theorem State.commitTag0_text (s : State) (t : Tag) :
    (s.commitTag0 t).committed.text = s.committed.text := rfl
@[simp] theorem State.commitTag0_clock (s : State) (t : Tag) :
    (s.commitTag0 t).committed.clock = s.committed.clock := rfl
@[simp] theorem State.commitTag0_tag0 (s : State) (t : Tag) :
    (s.commitTag0 t).committed.tag0 = t := rfl
@[simp] theorem State.commitTag0_tag1 (s : State) (t : Tag) :
    (s.commitTag0 t).committed.tag1 = s.committed.tag1 := rfl
@[simp] theorem State.commitTag0_title (s : State) (t : Tag) :
    (s.commitTag0 t).committed.title = s.committed.title := rfl
@[simp] theorem State.commitTag0_artist (s : State) (t : Tag) :
    (s.commitTag0 t).committed.artist = s.committed.artist := rfl
@[simp] theorem State.commitTag0_scratch (s : State) (t : Tag) :
    (s.commitTag0 t).scratch = s.scratch := rfl
@[simp] theorem State.commitTag0_inFlight (s : State) (t : Tag) :
    (s.commitTag0 t).inFlight = s.inFlight := rfl
@[simp] theorem State.commitTag0_rdAddr (s : State) (t : Tag) :
    (s.commitTag0 t).rdAddr = s.rdAddr := rfl
@[simp] theorem State.commitTag0_inputs (s : State) (t : Tag) :
    (s.commitTag0 t).inputs = s.inputs := rfl
@[simp] theorem State.commitTag0_cfg (s : State) (t : Tag) :
    (s.commitTag0 t).cfg = s.cfg := rfl

/-! ### `State.commitTag1` -/

@[simp] theorem State.commitTag1_header (s : State) (t : Tag) :
    (s.commitTag1 t).committed.header = s.committed.header := rfl
@[simp] theorem State.commitTag1_flags (s : State) (t : Tag) :
    (s.commitTag1 t).committed.flags = s.committed.flags := rfl
@[simp] theorem State.commitTag1_name (s : State) (t : Tag) :
    (s.commitTag1 t).committed.name = s.committed.name := rfl
@[simp] theorem State.commitTag1_text (s : State) (t : Tag) :
    (s.commitTag1 t).committed.text = s.committed.text := rfl
@[simp] theorem State.commitTag1_clock (s : State) (t : Tag) :
    (s.commitTag1 t).committed.clock = s.committed.clock := rfl
@[simp] theorem State.commitTag1_tag0 (s : State) (t : Tag) :
    (s.commitTag1 t).committed.tag0 = s.committed.tag0 := rfl
@[simp] theorem State.commitTag1_tag1 (s : State) (t : Tag) :
    (s.commitTag1 t).committed.tag1 = t := rfl
@[simp] theorem State.commitTag1_title (s : State) (t : Tag) :
    (s.commitTag1 t).committed.title = s.committed.title := rfl
@[simp] theorem State.commitTag1_artist (s : State) (t : Tag) :
    (s.commitTag1 t).committed.artist = s.committed.artist := rfl
@[simp] theorem State.commitTag1_scratch (s : State) (t : Tag) :
    (s.commitTag1 t).scratch = s.scratch := rfl
@[simp] theorem State.commitTag1_inFlight (s : State) (t : Tag) :
    (s.commitTag1 t).inFlight = s.inFlight := rfl
@[simp] theorem State.commitTag1_rdAddr (s : State) (t : Tag) :
    (s.commitTag1 t).rdAddr = s.rdAddr := rfl
@[simp] theorem State.commitTag1_inputs (s : State) (t : Tag) :
    (s.commitTag1 t).inputs = s.inputs := rfl
@[simp] theorem State.commitTag1_cfg (s : State) (t : Tag) :
    (s.commitTag1 t).cfg = s.cfg := rfl

/-! ### `State.commitTitle` -/

@[simp] theorem State.commitTitle_header (s : State) (v : Vector Byte 64) :
    (s.commitTitle v).committed.header = s.committed.header := rfl
@[simp] theorem State.commitTitle_flags (s : State) (v : Vector Byte 64) :
    (s.commitTitle v).committed.flags = s.committed.flags := rfl
@[simp] theorem State.commitTitle_name (s : State) (v : Vector Byte 64) :
    (s.commitTitle v).committed.name = s.committed.name := rfl
@[simp] theorem State.commitTitle_text (s : State) (v : Vector Byte 64) :
    (s.commitTitle v).committed.text = s.committed.text := rfl
@[simp] theorem State.commitTitle_clock (s : State) (v : Vector Byte 64) :
    (s.commitTitle v).committed.clock = s.committed.clock := rfl
@[simp] theorem State.commitTitle_tag0 (s : State) (v : Vector Byte 64) :
    (s.commitTitle v).committed.tag0 = s.committed.tag0 := rfl
@[simp] theorem State.commitTitle_tag1 (s : State) (v : Vector Byte 64) :
    (s.commitTitle v).committed.tag1 = s.committed.tag1 := rfl
@[simp] theorem State.commitTitle_title (s : State) (v : Vector Byte 64) :
    (s.commitTitle v).committed.title = v := rfl
@[simp] theorem State.commitTitle_artist (s : State) (v : Vector Byte 64) :
    (s.commitTitle v).committed.artist = s.committed.artist := rfl
@[simp] theorem State.commitTitle_scratch (s : State) (v : Vector Byte 64) :
    (s.commitTitle v).scratch = s.scratch := rfl
@[simp] theorem State.commitTitle_inFlight (s : State) (v : Vector Byte 64) :
    (s.commitTitle v).inFlight = s.inFlight := rfl
@[simp] theorem State.commitTitle_rdAddr (s : State) (v : Vector Byte 64) :
    (s.commitTitle v).rdAddr = s.rdAddr := rfl
@[simp] theorem State.commitTitle_inputs (s : State) (v : Vector Byte 64) :
    (s.commitTitle v).inputs = s.inputs := rfl
@[simp] theorem State.commitTitle_cfg (s : State) (v : Vector Byte 64) :
    (s.commitTitle v).cfg = s.cfg := rfl

/-! ### `State.commitArtist` -/

@[simp] theorem State.commitArtist_header (s : State) (v : Vector Byte 64) :
    (s.commitArtist v).committed.header = s.committed.header := rfl
@[simp] theorem State.commitArtist_flags (s : State) (v : Vector Byte 64) :
    (s.commitArtist v).committed.flags = s.committed.flags := rfl
@[simp] theorem State.commitArtist_name (s : State) (v : Vector Byte 64) :
    (s.commitArtist v).committed.name = s.committed.name := rfl
@[simp] theorem State.commitArtist_text (s : State) (v : Vector Byte 64) :
    (s.commitArtist v).committed.text = s.committed.text := rfl
@[simp] theorem State.commitArtist_clock (s : State) (v : Vector Byte 64) :
    (s.commitArtist v).committed.clock = s.committed.clock := rfl
@[simp] theorem State.commitArtist_tag0 (s : State) (v : Vector Byte 64) :
    (s.commitArtist v).committed.tag0 = s.committed.tag0 := rfl
@[simp] theorem State.commitArtist_tag1 (s : State) (v : Vector Byte 64) :
    (s.commitArtist v).committed.tag1 = s.committed.tag1 := rfl
@[simp] theorem State.commitArtist_title (s : State) (v : Vector Byte 64) :
    (s.commitArtist v).committed.title = s.committed.title := rfl
@[simp] theorem State.commitArtist_artist (s : State) (v : Vector Byte 64) :
    (s.commitArtist v).committed.artist = v := rfl
@[simp] theorem State.commitArtist_scratch (s : State) (v : Vector Byte 64) :
    (s.commitArtist v).scratch = s.scratch := rfl
@[simp] theorem State.commitArtist_inFlight (s : State) (v : Vector Byte 64) :
    (s.commitArtist v).inFlight = s.inFlight := rfl
@[simp] theorem State.commitArtist_rdAddr (s : State) (v : Vector Byte 64) :
    (s.commitArtist v).rdAddr = s.rdAddr := rfl
@[simp] theorem State.commitArtist_inputs (s : State) (v : Vector Byte 64) :
    (s.commitArtist v).inputs = s.inputs := rfl
@[simp] theorem State.commitArtist_cfg (s : State) (v : Vector Byte 64) :
    (s.commitArtist v).cfg = s.cfg := rfl

/-! ### `State.setRdAddr` -/

@[simp] theorem State.setRdAddr_committed (s : State) (addr : BitVec 9) :
    (s.setRdAddr addr).committed = s.committed := rfl
@[simp] theorem State.setRdAddr_scratch (s : State) (addr : BitVec 9) :
    (s.setRdAddr addr).scratch = s.scratch := rfl
@[simp] theorem State.setRdAddr_inFlight (s : State) (addr : BitVec 9) :
    (s.setRdAddr addr).inFlight = s.inFlight := rfl
@[simp] theorem State.setRdAddr_rdAddr (s : State) (addr : BitVec 9) :
    (s.setRdAddr addr).rdAddr = addr := rfl
@[simp] theorem State.setRdAddr_inputs (s : State) (addr : BitVec 9) :
    (s.setRdAddr addr).inputs = s.inputs := rfl
@[simp] theorem State.setRdAddr_cfg (s : State) (addr : BitVec 9) :
    (s.setRdAddr addr).cfg = s.cfg := rfl

/-! ### `State.accept` -/

@[simp] theorem State.accept_committed (s : State) (g : RdsGroup) (left : Nat) :
    (s.accept g left).committed = s.committed := rfl
@[simp] theorem State.accept_scratch (s : State) (g : RdsGroup) (left : Nat) :
    (s.accept g left).scratch = s.scratch := rfl
@[simp] theorem State.accept_inFlight (s : State) (g : RdsGroup) (left : Nat) :
    (s.accept g left).inFlight = some { group := g, left := left } := rfl
@[simp] theorem State.accept_rdAddr (s : State) (g : RdsGroup) (left : Nat) :
    (s.accept g left).rdAddr = s.rdAddr := rfl
@[simp] theorem State.accept_inputs (s : State) (g : RdsGroup) (left : Nat) :
    (s.accept g left).inputs = s.inputs := rfl
@[simp] theorem State.accept_cfg (s : State) (g : RdsGroup) (left : Nat) :
    (s.accept g left).cfg = s.cfg := rfl

/-! ### `State.land` -/

@[simp] theorem State.land_committed (s : State) :
    (s.land).committed = s.committed := rfl
@[simp] theorem State.land_scratch (s : State) :
    (s.land).scratch = s.scratch := rfl
@[simp] theorem State.land_inFlight (s : State) :
    (s.land).inFlight = none := rfl
@[simp] theorem State.land_rdAddr (s : State) :
    (s.land).rdAddr = s.rdAddr := rfl
@[simp] theorem State.land_inputs (s : State) :
    (s.land).inputs = s.inputs := rfl
@[simp] theorem State.land_cfg (s : State) :
    (s.land).cfg = s.cfg := rfl

/-! ### `State.dropInput` -/

@[simp] theorem State.dropInput_committed (s : State) :
    (s.dropInput).committed = s.committed := rfl
@[simp] theorem State.dropInput_scratch (s : State) :
    (s.dropInput).scratch = s.scratch := rfl
@[simp] theorem State.dropInput_inFlight (s : State) :
    (s.dropInput).inFlight = s.inFlight := rfl
@[simp] theorem State.dropInput_rdAddr (s : State) :
    (s.dropInput).rdAddr = s.rdAddr := rfl
@[simp] theorem State.dropInput_inputs (s : State) :
    (s.dropInput).inputs = s.inputs.tail := rfl
@[simp] theorem State.dropInput_cfg (s : State) :
    (s.dropInput).cfg = s.cfg := rfl

/-! ### `State.clearAll` -/

@[simp] theorem State.clearAll_committed (s : State) :
    (s.clearAll).committed = Committed.zero := rfl
@[simp] theorem State.clearAll_scratch (s : State) :
    (s.clearAll).scratch = Scratch.zero := rfl
@[simp] theorem State.clearAll_inFlight (s : State) :
    (s.clearAll).inFlight = none := rfl
@[simp] theorem State.clearAll_rdAddr (s : State) :
    (s.clearAll).rdAddr = s.rdAddr := rfl
@[simp] theorem State.clearAll_inputs (s : State) :
    (s.clearAll).inputs = s.inputs := rfl
@[simp] theorem State.clearAll_cfg (s : State) :
    (s.clearAll).cfg = s.cfg := rfl

/-! ### The radiotext commit, by variant (R125) -/

@[simp] theorem State.commitText_bank (s : State) (f : Bit) :
    (s.commitText f).committed.text.bank f = s.scratch.rt := by cases f <;> rfl

@[simp] theorem State.commitText_bank_not (s : State) (f : Bit) :
    (s.commitText f).committed.text.bank (!f) = s.committed.text.bank (!f) := by cases f <;> rfl

@[simp] theorem State.commitText_validOf (s : State) (f : Bit) :
    (s.commitText f).committed.text.validOf f = true := by cases f <;> rfl

@[simp] theorem State.commitText_validOf_not (s : State) (f : Bit) :
    (s.commitText f).committed.text.validOf (!f) = s.committed.text.validOf (!f) := by cases f <;> rfl

@[simp] theorem State.commitText_flag (s : State) (f : Bit) :
    (s.commitText f).committed.text.flag = f := by cases f <;> rfl

end Sys2Proof.Machine
end

