-- ==== Sys2Proof/Laws/Decode.lean ====
section
/-! SUPPORT. The layout of block B taken apart and put together again: each field of an assembled block B is the
field it was assembled from, and a block B is assembled from its own fields (spec/30_encoding.md R73). -/

namespace Sys2Proof

/-- The fields of an assembled block B lie where R73 puts them. -/
theorem blockB_getLsbD (type : BitVec 4) (version : Bit) (x : Payload) (i : Nat) :
    (blockB type version x).getLsbD i =
      if i < 5 then x.gs.getLsbD i
      else if i < 10 then x.pty.getLsbD (i - 5)
      else if i = 10 then x.tp
      else if i = 11 then version
      else type.getLsbD (i - 12) := by
  simp only [blockB, BitVec.getLsbD_append]
  by_cases h1 : i < 5
  · simp [h1]
  · by_cases h2 : i < 10
    · simp [h1, h2, show i - 5 < 5 by omega]
    · by_cases h3 : i = 10
      · subst h3; simp
      · by_cases h4 : i = 11
        · subst h4; simp
        · have e1 : ¬ (i - 5 < 5) := by omega
          have e2 : ¬ (i - 5 - 5 < 1) := by omega
          have e3 : ¬ (i - 5 - 5 - 1 < 1) := by omega
          have e4 : i - 5 - 5 - 1 - 1 = i - 12 := by omega
          simp [h1, h2, h3, h4, e1, e2, e3, e4]

@[simp] theorem typeOf_blockB (type : BitVec 4) (version : Bit) (x : Payload) :
    typeOf (blockB type version x) = type := by
  apply BitVec.eq_of_getLsbD_eq
  intro i hi
  have h1 : ¬ (12 + i < 5) := by omega
  have h2 : ¬ (12 + i < 10) := by omega
  have h3 : ¬ (12 + i = 10) := by omega
  have h4 : ¬ (12 + i = 11) := by omega
  simp [typeOf, blockB_getLsbD, hi, h1, h2, h3, h4]

@[simp] theorem versionOf_blockB (type : BitVec 4) (version : Bit) (x : Payload) :
    versionOf (blockB type version x) = version := by
  rw [versionOf, blockB_getLsbD]; simp

@[simp] theorem tpOf_blockB (type : BitVec 4) (version : Bit) (x : Payload) :
    tpOf (blockB type version x) = x.tp := by
  rw [tpOf, blockB_getLsbD]; simp

@[simp] theorem ptyOf_blockB (type : BitVec 4) (version : Bit) (x : Payload) :
    ptyOf (blockB type version x) = x.pty := by
  apply BitVec.eq_of_getLsbD_eq
  intro i hi
  have h1 : ¬ (5 + i < 5) := by omega
  have h2 : 5 + i < 10 := by omega
  simp [ptyOf, blockB_getLsbD, hi, h2]

@[simp] theorem gsOf_blockB (type : BitVec 4) (version : Bit) (x : Payload) :
    gsOf (blockB type version x) = x.gs := by
  apply BitVec.eq_of_getLsbD_eq
  intro i hi
  simp [gsOf, blockB_getLsbD, hi]

@[simp] theorem payloadOf_groupOf (type : BitVec 4) (version : Bit) (x : Payload) :
    payloadOf (groupOf type version x) = x := by
  simp [payloadOf, groupOf]

/-- A block B is assembled from its own fields. -/
theorem blockB_of_fields (g : RdsGroup) : blockB (typeOf g.b) (versionOf g.b) (payloadOf g) = g.b := by
  apply BitVec.eq_of_getLsbD_eq
  intro i hi
  rw [blockB_getLsbD]
  by_cases h1 : i < 5
  · simp [h1, payloadOf, gsOf]
  · by_cases h2 : i < 10
    · simp [h1, h2, payloadOf, ptyOf, show i - 5 < 5 by omega,
        show 5 + (i - 5) = i by omega]
    · by_cases h3 : i = 10
      · subst h3; simp [payloadOf, tpOf]
      · by_cases h4 : i = 11
        · subst h4; simp [versionOf]
        · simp [h1, h2, h3, h4, typeOf, show i - 12 < 4 by omega,
            show 12 + (i - 12) = i by omega]

/-- A group is assembled from its own pair and payload. -/
theorem groupOf_of_fields (g : RdsGroup) : groupOf (typeOf g.b) (versionOf g.b) (payloadOf g) = g := by
  have h := blockB_of_fields g
  cases g
  simp only [groupOf, payloadOf] at *
  simp [h]

end Sys2Proof
end

