-- ==== Sys2Proof/Laws/Ops.lean ====
section
/-! SUPPORT. What the shared operations do, said once each, for later proofs to cite instead of unfolding them. -/

namespace Sys2Proof.Machine

/-! ### Byte arrays -/

/-- A write puts its byte at its index and leaves every other index alone. -/
theorem byteAt_putByte {n : Nat} (v : Vector Byte n) (i j : Nat) (b : Byte) :
    byteAt (putByte v i b) j = if j = i ∧ i < n then b else byteAt v j := by
  unfold byteAt putByte
  rw [Vector.getElem?_setIfInBounds]
  by_cases h : i = j
  · subst h
    by_cases hn : i < n <;> simp [hn]
  · have h' : ¬ (j = i) := fun e => h e.symm
    simp [h, h']

theorem byteAt_replicate (n : Nat) (b : Byte) (i : Nat) (h : i < n) : byteAt (Vector.replicate n b) i = b := by
  simp [byteAt, h]

/-- A zeroed array reads 0x00 at every index, past its end too. -/
@[simp] theorem byteAt_zero (n i : Nat) : byteAt (Vector.replicate n (0 : Byte)) i = 0 := by
  by_cases h : i < n <;> simp [byteAt, h]

/-- Two arrays with the same bytes are the same array. -/
theorem vector_ext_byteAt {n : Nat} {v w : Vector Byte n} (h : ∀ i, i < n → byteAt v i = byteAt w i) : v = w := by
  apply Vector.ext
  intro i hi
  simpa [byteAt, hi] using h i hi

/-- A span holds the `len` bytes from `start` on, and 0x00 after them (R155). -/
theorem byteAt_span (buf : Vector Byte 64) (start len i : Nat) (h : i < 64) :
    byteAt (span buf start len) i = if i < len then byteAt buf (start + i) else 0x00 := by
  conv_lhs => unfold byteAt span
  simp [h]

/-! ### The DI accumulator (R112) -/

/-- Setting one bit of the accumulator leaves the other three alone. -/
theorem getLsbD_setDiBit (di : BitVec 4) (i j : Nat) (b : Bit) (hi : i < 4) (hj : j < 4) :
    (setDiBit di i b).getLsbD j = if j = i then b else di.getLsbD j := by
  by_cases h : i = j
  · subst h; cases b <;> simp [setDiBit, hi]
  · have h' : ¬ (j = i) := fun e => h e.symm
    cases b <;> simp [setDiBit, h', hj]

/-! ### The radiotext copy loop (R123, R124) -/

/-- The loop completes exactly when the segment holds a carriage return or runs to the last byte of the
buffer. -/
theorem scanSegment_done (seg : List Byte) (p : Nat) (buf : Vector Byte 64) (h : p + seg.length ≤ 64) :
    (scanSegment seg p buf).2 = true ↔ carriageReturn ∈ seg ∨ (seg ≠ [] ∧ p + seg.length = 64) := by
  induction seg generalizing p buf with
  | nil => simp [scanSegment]
  | cons ch rest ih =>
    simp only [List.length_cons] at h
    by_cases hc : ch = carriageReturn
    · simp [scanSegment, hc]
    · have hc' : ¬ (carriageReturn = ch) := fun e => hc e.symm
      by_cases hp : p = 63
      · have : rest = [] := List.eq_nil_of_length_eq_zero (by omega)
        simp [scanSegment, hc, hp, this]
      · have hlen : p + 1 + rest.length = p + (rest.length + 1) := by omega
        simp only [scanSegment, hc, hp, if_false, ih (p + 1) _ (by omega), List.mem_cons, hc', false_or,
          List.length_cons, hlen, ne_eq, reduceCtorEq, not_false_eq_true, true_and]
        constructor
        · rintro (h1 | ⟨_, h2⟩)
          · exact .inl h1
          · exact .inr h2
        · rintro (h1 | h2)
          · exact .inl h1
          · refine .inr ⟨?_, h2⟩
            intro e
            simp [e] at h2
            exact hp h2

/-- Byte `j` of the buffer after the loop: the character of its position, 0x00 where that is the first carriage
return, and the old byte at every position the loop does not reach. -/
theorem scanSegment_byte (seg : List Byte) (p j : Nat) (buf : Vector Byte 64) (h : p + seg.length ≤ 64) :
    byteAt (scanSegment seg p buf).1 j =
      if p ≤ j ∧ j < p + seg.length ∧ carriageReturn ∉ seg.take (j - p) then
        (if seg[j - p]? = some carriageReturn then 0x00 else (seg[j - p]?).getD 0x00)
      else byteAt buf j := by
  induction seg generalizing p buf with
  | nil => simp [scanSegment]
  | cons ch rest ih =>
    simp only [List.length_cons] at h
    by_cases hc : ch = carriageReturn
    · subst hc
      simp only [scanSegment, if_true, byteAt_putByte, List.length_cons]
      by_cases hj : j = p
      · subst hj
        simp [show j < 64 by omega]
      · by_cases hlt : p ≤ j
        · obtain ⟨k, hk⟩ : ∃ k, j - p = k + 1 := ⟨j - p - 1, by omega⟩
          simp [hj, hk]
        · simp [hj, hlt]
    · by_cases hp : p = 63
      · have hr : rest = [] := List.eq_nil_of_length_eq_zero (by omega)
        subst hp hr
        simp only [scanSegment, hc, if_false, if_true, byteAt_putByte, List.length_cons, List.length_nil]
        by_cases hj : j = 63
        · subst hj; simp [hc]
        · have : ¬ (63 ≤ j ∧ j < 63 + (0 + 1)) := by omega
          rw [if_neg (by tauto), if_neg (by tauto)]
      · simp only [scanSegment, hc, hp, if_false]
        rw [ih (p + 1) _ (by omega), byteAt_putByte]
        by_cases hj : j = p
        · subst hj
          have : ¬ (j + 1 ≤ j) := by omega
          simp [this, hc, show j < 64 by omega]
        · by_cases hlt : p ≤ j
          · obtain ⟨k, hk⟩ : ∃ k, j = p + 1 + k := ⟨j - p - 1, by omega⟩
            subst hk
            have e1 : p + 1 + k - (p + 1) = k := by omega
            have e2 : p + 1 + k - p = k + 1 := by omega
            have hc' : ¬ (carriageReturn = ch) := fun e => hc e.symm
            have e3 : p + 1 + k < p + (rest.length + 1) ↔ p + 1 + k < p + 1 + rest.length := by omega
            simp only [e1, e2, List.length_cons, List.take_succ_cons, List.mem_cons, hc', false_or,
              List.getElem?_cons_succ, e3, show p ≤ p + 1 + k by omega, show p + 1 ≤ p + 1 + k by omega,
              true_and, show ¬ (p + 1 + k = p) by omega, false_and, if_false]
          · rw [if_neg (by omega), if_neg (by omega), if_neg (by omega)]

/-! ### The decoders -/

/-- `PS_DECODE` writes TA and MS, the segment and its DI bit, and at address 3 the name (R110 to R113). -/
theorem psDecode_eq (x : Payload) (s : State) :
    psDecode x s = commitAtThree (psFields x).addr
      ((s.commitFlags (psFields x).ta (psFields x).ms).writePsSegment (psFields x).addr (psFields x).c0
        (psFields x).c1 (psFields x).di) := rfl

/-- The commit step commits at address 3 and does nothing at another. -/
theorem commitAtThree_eq (addr : BitVec 2) (s : State) :
    commitAtThree addr s = if addr = 3 then s.commitName else s := rfl

/-- `RT_DECODE` writes the scratch, and commits it when the loop completed (R123 to R125). -/
theorem rtDecode_cases (f : RtFields) (s : State) :
    ((scanSegment f.seg f.off s.scratch.rt).2 = true ∧
      rtDecode f s = (s.writeRtScratch f.flip (scanSegment f.seg f.off s.scratch.rt).1).commitText f.flip) ∨
    ((scanSegment f.seg f.off s.scratch.rt).2 = false ∧
      rtDecode f s = s.writeRtScratch f.flip (scanSegment f.seg f.off s.scratch.rt).1) := by
  unfold rtDecode
  by_cases h : (scanSegment f.seg f.off s.scratch.rt).2 = true
  · exact .inl ⟨h, by simp [h]⟩
  · exact .inr ⟨by simpa using h, by simp [h]⟩

/-- No segment leaves the buffer (R123). -/
theorem rtFields2A_inside (x : Payload) : (rtFields2A x).off + (rtFields2A x).seg.length ≤ 64 := by
  have := (rtAddrOf x).isLt
  simp [rtFields2A]; omega

/-- The largest position of a 2B segment is 31 (R123, R128). -/
theorem rtFields2B_inside (x : Payload) : (rtFields2B x).off + (rtFields2B x).seg.length ≤ 32 := by
  have := (rtAddrOf x).isLt
  simp [rtFields2B]; omega

/-- `CT_DECODE` commits an accepted sample and leaves everything after a rejected one (R136, R137). -/
theorem ctDecode_cases (x : Payload) (s : State) :
    (accepts (ctFields x) = true ∧ ctDecode x s = s.commitClock (clockOf (ctFields x))) ∨
    (accepts (ctFields x) = false ∧ ctDecode x s = s) := by
  unfold ctDecode
  by_cases h : accepts (ctFields x) = true
  · exact .inl ⟨h, by simp [h]⟩
  · exact .inr ⟨by simpa using h, by simp [h]⟩

/-- A tag's Title or Artist step writes at most one of the two arrays (R154). -/
theorem commitDerived_cases (t : Tag) (s : State) :
    (t.ctype = s.cfg.ctTitle ∧ commitDerived t s = s.commitTitle (tagSpan s.committed t)) ∨
    (t.ctype ≠ s.cfg.ctTitle ∧ t.ctype = s.cfg.ctArtist ∧
      commitDerived t s = s.commitArtist (tagSpan s.committed t)) ∨
    (t.ctype ≠ s.cfg.ctTitle ∧ t.ctype ≠ s.cfg.ctArtist ∧ commitDerived t s = s) := by
  unfold commitDerived
  split
  · exact .inl ⟨‹_›, rfl⟩
  · split
    · exact .inr (.inl ⟨‹_›, ‹_›, rfl⟩)
    · exact .inr (.inr ⟨‹_›, ‹_›, rfl⟩)

/-- A pair without a fixed decoder is RT+ or header-only (R103, R156). -/
theorem openPair_cases (type : BitVec 4) (version : Bit) (x : Payload) (s : State) :
    (s.cfg.isRtp type version = true ∧ openPair type version x s = rtpDecode x (s.header x)) ∨
    (s.cfg.isRtp type version = false ∧ openPair type version x s = s.header x) := by
  unfold openPair
  by_cases h : s.cfg.isRtp type version = true
  · exact .inl ⟨h, by simp [h]⟩
  · exact .inr ⟨by simpa using h, by simp [h]⟩

/-! ### The handshake -/

/-- With no APPLY in progress a cycle changes nothing. -/
theorem advance_of_none {s : State} (h : s.inFlight = none) : advance s = .next s := by
  simp [advance, h]

/-- An APPLY in progress lands at its last cycle, and otherwise only its count falls (R41). -/
theorem advance_of_some {s : State} {f : InFlight} (h : s.inFlight = some f) :
    advance s = if f.left ≤ 1 then exec (.apply f.group) s.land else .next (s.accept f.group (f.left - 1)) := by
  simp [advance, h]

/-- The block is ready when no APPLY is in progress and `rst_n` is 1 (R45). -/
theorem grpReady_of_none {e : Edge} {s : State} (hn : e.rstN = true) (h : s.inFlight = none) :
    grpReady e s = true := by
  simp [grpReady, hn, h]

end Sys2Proof.Machine
end

