-- ==== Sys2Proof/Laws/PerInstr.lean ====
section
/-! SUPPORT. Statements per instruction. The family `TableRow`: the request that encodes an instruction is of the
format of its row in spec/opcode_table.json and carries the row's fixed bits. -/

namespace Sys2Proof

/-- The bits of block B under the mask 0xF800 are the type and the version alone (R73, R83). -/
theorem blockB_and_mask (type : BitVec 4) (version : Bit) (x : Payload) :
    blockB type version x &&& 0xF800 = type ++ BitVec.ofBool version ++ (0 : BitVec 11) := by
  apply BitVec.eq_of_getLsbD_eq
  intro i hi
  have key : ∀ j, j < 16 → (0xF800 : Word).getLsbD j = decide (11 ≤ j) := by decide
  rw [BitVec.getLsbD_and, key i hi]
  simp only [blockB, BitVec.getLsbD_append]
  by_cases h : 11 ≤ i
  · have h1 : ¬ (i < 5) := by omega
    have h2 : ¬ (i - 5 < 5) := by omega
    have h3 : ¬ (i - 5 - 5 < 1) := by omega
    have h4 : i - 5 - 5 - 1 = i - 11 := by omega
    have h5 : ¬ (i < 11) := by omega
    simp [h, h1, h2, h3, h4, h5]
  · have h5 : i < 11 := by omega
    simp [h, h5]

namespace Laws.TableRow

/-- The encoding of an instruction is selected by the instruction's own row of the opcode table, or is the one
the IDLE row's note adds: CTRL 0b01 while `grp_ready` is 0. -/
def Statement (i : Instr) : Prop :=
  (rowOf i).selects (encode i) = true ∨ ∃ g, i = .idle (some g) ∧ encode i = .ctrl 0b01 false g

/-- A GROUP row selects every group of its pair. -/
theorem group_selects (type : BitVec 4) (version : Bit) (x : Payload) (m : String) (value : Word)
    (h : type ++ BitVec.ofBool version ++ (0 : BitVec 11) = value) :
    OpcodeRow.selects ⟨m, .group, 0xF800, value⟩ (.group (groupOf type version x)) = true := by
  simp only [OpcodeRow.selects, selectorOf, groupOf, blockB_and_mask, h, beq_self_eq_true, Bool.and_self]

theorem grp0A (x : Payload) : Statement (.grp0A x) :=
  .inl (group_selects 0 false x _ _ (by decide))
theorem grp0B (x : Payload) : Statement (.grp0B x) :=
  .inl (group_selects 0 true x _ _ (by decide))
theorem grp1A (x : Payload) : Statement (.grp1A x) :=
  .inl (group_selects 1 false x _ _ (by decide))
theorem grp1B (x : Payload) : Statement (.grp1B x) :=
  .inl (group_selects 1 true x _ _ (by decide))
theorem grp2A (x : Payload) : Statement (.grp2A x) :=
  .inl (group_selects 2 false x _ _ (by decide))
theorem grp2B (x : Payload) : Statement (.grp2B x) :=
  .inl (group_selects 2 true x _ _ (by decide))
theorem grp3A (x : Payload) : Statement (.grp3A x) :=
  .inl (group_selects 3 false x _ _ (by decide))
theorem grp3B (x : Payload) : Statement (.grp3B x) :=
  .inl (group_selects 3 true x _ _ (by decide))
theorem grp4A (x : Payload) : Statement (.grp4A x) :=
  .inl (group_selects 4 false x _ _ (by decide))
theorem grp4B (x : Payload) : Statement (.grp4B x) :=
  .inl (group_selects 4 true x _ _ (by decide))
theorem grp5A (x : Payload) : Statement (.grp5A x) :=
  .inl (group_selects 5 false x _ _ (by decide))
theorem grp5B (x : Payload) : Statement (.grp5B x) :=
  .inl (group_selects 5 true x _ _ (by decide))
theorem grp6A (x : Payload) : Statement (.grp6A x) :=
  .inl (group_selects 6 false x _ _ (by decide))
theorem grp6B (x : Payload) : Statement (.grp6B x) :=
  .inl (group_selects 6 true x _ _ (by decide))
theorem grp7A (x : Payload) : Statement (.grp7A x) :=
  .inl (group_selects 7 false x _ _ (by decide))
theorem grp7B (x : Payload) : Statement (.grp7B x) :=
  .inl (group_selects 7 true x _ _ (by decide))
theorem grp8A (x : Payload) : Statement (.grp8A x) :=
  .inl (group_selects 8 false x _ _ (by decide))
theorem grp8B (x : Payload) : Statement (.grp8B x) :=
  .inl (group_selects 8 true x _ _ (by decide))
theorem grp9A (x : Payload) : Statement (.grp9A x) :=
  .inl (group_selects 9 false x _ _ (by decide))
theorem grp9B (x : Payload) : Statement (.grp9B x) :=
  .inl (group_selects 9 true x _ _ (by decide))
theorem grp10A (x : Payload) : Statement (.grp10A x) :=
  .inl (group_selects 10 false x _ _ (by decide))
theorem grp10B (x : Payload) : Statement (.grp10B x) :=
  .inl (group_selects 10 true x _ _ (by decide))
theorem grp11A (x : Payload) : Statement (.grp11A x) :=
  .inl (group_selects 11 false x _ _ (by decide))
theorem grp11B (x : Payload) : Statement (.grp11B x) :=
  .inl (group_selects 11 true x _ _ (by decide))
theorem grp12A (x : Payload) : Statement (.grp12A x) :=
  .inl (group_selects 12 false x _ _ (by decide))
theorem grp12B (x : Payload) : Statement (.grp12B x) :=
  .inl (group_selects 12 true x _ _ (by decide))
theorem grp13A (x : Payload) : Statement (.grp13A x) :=
  .inl (group_selects 13 false x _ _ (by decide))
theorem grp13B (x : Payload) : Statement (.grp13B x) :=
  .inl (group_selects 13 true x _ _ (by decide))
theorem grp14A (x : Payload) : Statement (.grp14A x) :=
  .inl (group_selects 14 false x _ _ (by decide))
theorem grp14B (x : Payload) : Statement (.grp14B x) :=
  .inl (group_selects 14 true x _ _ (by decide))
theorem grp15A (x : Payload) : Statement (.grp15A x) :=
  .inl (group_selects 15 false x _ _ (by decide))
theorem grp15B (x : Payload) : Statement (.grp15B x) :=
  .inl (group_selects 15 true x _ _ (by decide))
theorem apply (g : RdsGroup) : Statement (.apply g) := by
  simp [Statement, rowOf, encode, OpcodeRow.selects, selectorOf]
theorem reset (discarded : Option RdsGroup) : Statement (.reset discarded) := by
  cases discarded <;> simp [Statement, rowOf, encode, OpcodeRow.selects, selectorOf]
theorem idle (waiting : Option RdsGroup) : Statement (.idle waiting) := by
  cases waiting with
  | none => exact .inl rfl
  | some g => exact .inr ⟨g, rfl, rfl⟩
theorem read (addr : BitVec 9) : Statement (.read addr) := by
  simp [Statement, rowOf, encode, OpcodeRow.selects, selectorOf]

end Laws.TableRow

end Sys2Proof
end

