-- ==== Sys2Proof/Tests/Slice0.lean ====
section
/-! SUPPORT. The model's own tests: well-formedness, decoding of words written out from the spec's layouts, one-step
checks against the vectors of spec/95_test_vectors.md, and a witness for the hypotheses of every statement. Expected
values come from the spec. -/

namespace Sys2Proof.Tests

open Sys2Proof Sys2Proof.Machine

/-! ### Helpers -/

/-- The state an outcome leaves; the reset state where it stops. -/
def stateOf (o : Host.Outcome State Fault Refusal) : State :=
  match o with
  | .next t => t
  | _ => State.reset

/-- The state after some groups from a state, each applied in one step of the block. -/
def applied (gs : List RdsGroup) (s : State) : State :=
  gs.foldl (fun t g => stateOf (step { t with inputs := [.edge (groupEdge g 0)] })) s

/-- A buffer that starts with some characters and is 0x00 after them. -/
def textBuffer (chars : List Byte) : Vector Byte 64 :=
  Vector.ofFn fun i : Fin 64 => chars.getD i.val 0

/-- "Hello World". -/
def helloWorld : List Byte := [0x48, 0x65, 0x6C, 0x6C, 0x6F, 0x20, 0x57, 0x6F, 0x72, 0x6C, 0x64]

/-- A state in which "Hello World" is committed to RT[0]. -/
def withHello : State :=
  { State.reset with committed := { Committed.zero with
      text := { Committed.zero.text with rt0 := textBuffer helloWorld, valid0 := true } } }

/-- A legal configuration that is not the default one: RT+ in 5B. -/
def otherConfig : Config := { rtpType := 5, rtpVersion := true, ctTitle := 2, ctArtist := 3 }

/-- The reset state under that configuration. -/
def otherState : State := { State.reset with cfg := otherConfig }

/-- A group, the one of 40_classifier.md R100's example. -/
def groupKE : RdsGroup := ⟨0xC201, 0x0548, 0x0000, 0x4B45⟩

/-! ### Well-formedness -/

theorem test_config_default_wf : Config.default.wf = true ∧ otherConfig.wf = true := by decide

/-- Each of the six checks on a configuration refuses a term (R10). -/
theorem test_config_checks_refuse :
    ({ rtpType := 0, rtpVersion := false } : Config).wf = false ∧
    ({ rtpType := 0, rtpVersion := true } : Config).wf = false ∧
    ({ rtpType := 2, rtpVersion := false } : Config).wf = false ∧
    ({ rtpType := 2, rtpVersion := true } : Config).wf = false ∧
    ({ rtpType := 4, rtpVersion := false } : Config).wf = false ∧
    ({ ctTitle := 4, ctArtist := 4 } : Config).wf = false ∧
    ({ rtpType := 4, rtpVersion := true } : Config).wf = true := by decide

/-- Each range of the operands common to every pseudo-request refuses a term (R88). -/
theorem test_pseudo_header_checks_refuse :
    (Pseudo.ps0A 0x10000 0 0 0 0 0 0 0 0).wf = false ∧ (Pseudo.ps0A 0 2 0 0 0 0 0 0 0).wf = false ∧
    (Pseudo.ps0A 0 0 32 0 0 0 0 0 0).wf = false := by decide

theorem test_pseudo_ps_checks_refuse :
    (Pseudo.ps0A 0 0 0 2 0 0 0 0 0).wf = false ∧ (Pseudo.ps0A 0 0 0 0 2 0 0 0 0).wf = false ∧
    (Pseudo.ps0A 0 0 0 0 0 2 0 0 0).wf = false ∧ (Pseudo.ps0A 0 0 0 0 0 0 4 0 0).wf = false ∧
    (Pseudo.ps0A 0 0 0 0 0 0 0 256 0).wf = false ∧ (Pseudo.ps0A 0 0 0 0 0 0 0 0 256).wf = false ∧
    (Pseudo.ps0B 0 0 0 2 0 0 0 0 0).wf = false ∧ (Pseudo.ps0B 0 0 0 0 2 0 0 0 0).wf = false ∧
    (Pseudo.ps0B 0 0 0 0 0 2 0 0 0).wf = false ∧ (Pseudo.ps0B 0 0 0 0 0 0 4 0 0).wf = false ∧
    (Pseudo.ps0B 0 0 0 0 0 0 0 256 0).wf = false ∧ (Pseudo.ps0B 0 0 0 0 0 0 0 0 256).wf = false := by decide

theorem test_pseudo_rt_checks_refuse :
    (Pseudo.rt2A 0 0 0 2 0 0 0 0 0).wf = false ∧ (Pseudo.rt2A 0 0 0 0 16 0 0 0 0).wf = false ∧
    (Pseudo.rt2A 0 0 0 0 0 256 0 0 0).wf = false ∧ (Pseudo.rt2A 0 0 0 0 0 0 256 0 0).wf = false ∧
    (Pseudo.rt2A 0 0 0 0 0 0 0 256 0).wf = false ∧ (Pseudo.rt2A 0 0 0 0 0 0 0 0 256).wf = false ∧
    (Pseudo.rt2B 0 0 0 2 0 0 0).wf = false ∧ (Pseudo.rt2B 0 0 0 0 16 0 0).wf = false ∧
    (Pseudo.rt2B 0 0 0 0 0 256 0).wf = false ∧ (Pseudo.rt2B 0 0 0 0 0 0 256).wf = false := by decide

theorem test_pseudo_ct_rtp_checks_refuse :
    (Pseudo.ct4A 0 0 0 0x20000 0 0 0 0).wf = false ∧ (Pseudo.ct4A 0 0 0 0 32 0 0 0).wf = false ∧
    (Pseudo.ct4A 0 0 0 0 0 64 0 0).wf = false ∧ (Pseudo.ct4A 0 0 0 0 0 0 2 0).wf = false ∧
    (Pseudo.ct4A 0 0 0 0 0 0 0 32).wf = false ∧
    (Pseudo.rtp 0 0 0 2 0 0 0 0 0 0).wf = false ∧ (Pseudo.rtp 0 0 0 0 64 0 0 0 0 0).wf = false ∧
    (Pseudo.rtp 0 0 0 0 0 64 0 0 0 0).wf = false ∧ (Pseudo.rtp 0 0 0 0 0 0 64 0 0 0).wf = false ∧
    (Pseudo.rtp 0 0 0 0 0 0 0 64 0 0).wf = false ∧ (Pseudo.rtp 0 0 0 0 0 0 0 0 64 0).wf = false ∧
    (Pseudo.rtp 0 0 0 0 0 0 0 0 0 32).wf = false := by decide

/-! ### Decoding, from words written out bit by bit (R73, R77, R78, R80, R82)
Block B is written as its bits in order: type, version, tp, pty and the group-specific bits. -/

/-- 0A at address 2, TA 1, MS 0, DI 1, "KE": type 0000, version 0, tp 1, pty 01010, 1 0 1 10. -/
theorem test_decode_0A_fields :
    decode (.group ⟨0xC201, 0b0000010101010110, 0x0000, 0b0100101101000101⟩) =
      .grp0A ⟨0xC201, true, 0b01010, 0b10110, 0x0000, 0x4B45⟩ ∧
    psFields ⟨0xC201, true, 0b01010, 0b10110, 0x0000, 0x4B45⟩ =
      { ta := true, ms := false, di := true, addr := 2, c0 := 0x4B, c1 := 0x45 } := by decide

/-- 2A, flip 1, address 9: type 0010, version 0, tp 0, pty 11111, 1 1001; then "WXYZ". -/
theorem test_decode_2A_fields :
    decode (.group ⟨0x1234, 0b0010001111111001, 0x5758, 0x595A⟩) =
      .grp2A ⟨0x1234, false, 0b11111, 0b11001, 0x5758, 0x595A⟩ ∧
    rtFields2A ⟨0x1234, false, 0b11111, 0b11001, 0x5758, 0x595A⟩ =
      { flip := true, off := 36, seg := [0x57, 0x58, 0x59, 0x5A] } := by decide

/-- 2B, flip 0, address 15: type 0010, version 1, tp 1, pty 00000, 0 1111; offset 30, characters from D alone. -/
theorem test_decode_2B_fields :
    decode (.group ⟨0x1234, 0b0010110000001111, 0x0D0D, 0x6162⟩) =
      .grp2B ⟨0x1234, true, 0, 0b01111, 0x0D0D, 0x6162⟩ ∧
    rtFields2B ⟨0x1234, true, 0, 0b01111, 0x0D0D, 0x6162⟩ = { flip := false, off := 30, seg := [0x61, 0x62] } := by
  decide

/-- 4A: day count 0b01 : 110010111111001 = 58873, hour 0 : 1110 = 14, minute 011110 = 30, sign 1, magnitude 00011. -/
theorem test_decode_4A_fields :
    decode (.group ⟨0xC201, 0b0100010101000001, 0b1100101111110010, 0b1110011110100011⟩) =
      .grp4A ⟨0xC201, true, 0b01010, 0b00001, 0xCBF2, 0xE7A3⟩ ∧
    ctFields ⟨0xC201, true, 0b01010, 0b00001, 0xCBF2, 0xE7A3⟩ =
      { mjd := 58873, hour := 14, minute := 30, osign := true, omag := 3 } := by decide

/-- RT+, the worked extraction of spec/95_test_vectors.md L2.5. -/
theorem test_decode_11A_fields :
    decode (.group ⟨0xC201, 0b1011010101010000, 0b0010000000001010, 0b0010000011000101⟩) =
      .grp11A ⟨0xC201, true, 0b01010, 0b10000, 0x200A, 0x20C5⟩ ∧
    rtpFields ⟨0xC201, true, 0b01010, 0b10000, 0x200A, 0x20C5⟩ =
      { running := true, tag0 := ⟨1, 0, 5⟩, tag1 := ⟨4, 6, 5⟩ } := by decide

/-- The CTRL values of R72, and `rd_addr`. -/
theorem test_decode_ctrl :
    decode (.ctrl 0b00 true groupKE) = .idle none ∧ decode (.ctrl 0b01 true groupKE) = .apply groupKE ∧
    decode (.ctrl 0b01 false groupKE) = .idle (some groupKE) ∧ decode (.ctrl 0b10 true groupKE) = .reset none ∧
    decode (.ctrl 0b11 false groupKE) = .reset (some groupKE) ∧ decode (.rdport 0x1FF) = .read 0x1FF := by decide

/-- The mnemonics of the rows that some first block-B words with the low bits 0 decode to. -/
def rowsOfWords (from_ count : Nat) : List (Option String) :=
  (List.range count).map fun i => (decodeTableWord 16 (0x0800 * (from_ + i))).map fun k => (rowOf k).mnemonic

/-! Every GROUP row of spec/opcode_table.json, by the match value the table prints for it. -/

theorem test_decode_rows_0A_to_1B : rowsOfWords 0 4 =
    [some "GRP_0A", some "GRP_0B", some "GRP_1A", some "GRP_1B"] := by decide

theorem test_decode_rows_2A_to_3B : rowsOfWords 4 4 =
    [some "GRP_2A", some "GRP_2B", some "GRP_3A", some "GRP_3B"] := by decide

theorem test_decode_rows_4A_to_5B : rowsOfWords 8 4 =
    [some "GRP_4A", some "GRP_4B", some "GRP_5A", some "GRP_5B"] := by decide

theorem test_decode_rows_6A_to_7B : rowsOfWords 12 4 =
    [some "GRP_6A", some "GRP_6B", some "GRP_7A", some "GRP_7B"] := by decide

theorem test_decode_rows_8A_to_9B : rowsOfWords 16 4 =
    [some "GRP_8A", some "GRP_8B", some "GRP_9A", some "GRP_9B"] := by decide

theorem test_decode_rows_10A_to_11B : rowsOfWords 20 4 =
    [some "GRP_10A", some "GRP_10B", some "GRP_11A", some "GRP_11B"] := by decide

theorem test_decode_rows_12A_to_13B : rowsOfWords 24 4 =
    [some "GRP_12A", some "GRP_12B", some "GRP_13A", some "GRP_13B"] := by decide

theorem test_decode_rows_14A_to_15B : rowsOfWords 28 4 =
    [some "GRP_14A", some "GRP_14B", some "GRP_15A", some "GRP_15B"] := by decide

/-- The other rows, and a width that no format has. -/
theorem test_decode_control_rows :
    decodeTableWord 8 1 = some (.apply noWords) ∧ decodeTableWord 8 2 = some (.reset none) ∧
    decodeTableWord 8 3 = some (.reset (some noWords)) ∧ decodeTableWord 8 0 = some (.idle none) ∧
    decodeTableWord 0 0 = some (.read 0) ∧ decodeTableWord 9 0x1FF = some (.read 0x1FF) ∧
    decodeTableWord 8 4 = none ∧ decodeTableWord 65 0 = none := by decide

/-- Expansions of R88 against the lines of spec/95_test_vectors.md (L1-1, V-PS-2's layout, L1-3, V-RT-1, P3, L1-7). -/
theorem test_pseudo_expansions :
    expand Config.default (.ps0A 0xC201 1 10 0 1 0 0 0x4B 0x45) = ⟨0xC201, 0x0548, 0x0000, 0x4B45⟩ ∧
    expand Config.default (.ps0B 0xC201 1 10 1 0 1 0 0x4B 0x46) = ⟨0xC201, 0x0D54, 0xC201, 0x4B46⟩ ∧
    expand Config.default (.rt2A 0xC201 1 10 0 1 0x6F 0x0D 0x58 0x59) = ⟨0xC201, 0x2541, 0x6F0D, 0x5859⟩ ∧
    expand Config.default (.rt2B 0xC201 1 10 0 1 0x0D 0x00) = ⟨0xC201, 0x2D41, 0xC201, 0x0D00⟩ ∧
    expand Config.default (.ct4A 0xC201 1 10 58908 23 45 1 5) = ⟨0xC201, 0x4541, 0xCC39, 0x7B65⟩ ∧
    expand Config.default (.rtp 0xC201 1 10 1 1 60 5 4 62 3) = ⟨0xC201, 0xB550, 0x3E0A, 0x27C3⟩ := by decide

/-! ### One step, against the spec's vectors -/

/-- The example of R114: a lone address 3 commits six 0x00 bytes and two spaces. -/
theorem test_0A_lone_address_three :
    let t := applied [⟨0xC201, 0x054B, 0x0000, 0x2020⟩] State.reset
    t.committed.name = { ps := #v[0, 0, 0, 0, 0, 0, 0x20, 0x20], di := 0, valid := true } ∧
    t.committed.flags = { ta := false, ms := true } ∧ t.committed.header = { pi := 0xC201, tp := true, pty := 10 } ∧
    window t.committed 0x003 = 0x0D := by decide

/-- The first group of V-PS-4: address 0 writes DI_SCR bit 3 and commits nothing. -/
theorem test_0A_di_slot :
    let t := applied [⟨0xC201, 0x0544, 0x0000, 0x4B45⟩] State.reset
    t.scratch.di = 0b1000 ∧ t.scratch.ps = #v[0x4B, 0x45, 0, 0, 0, 0, 0, 0] ∧ t.committed.name = Committed.zero.name := by
  decide

/-- The example of R115: 0B at address 1. -/
theorem test_0B_address_one :
    let t := applied [⟨0xC201, 0x0D49, 0xC201, 0x4B45⟩] State.reset
    t.scratch.ps = #v[0, 0, 0x4B, 0x45, 0, 0, 0, 0] ∧ t.scratch.di = 0 ∧ t.committed.flags.ms = true := by decide

/-- V-RT-4: a carriage return at position 63 is replaced by 0x00 and completes. -/
theorem test_2A_return_at_position_63 :
    let t := applied [⟨0xC201, 0x254F, 0x6162, 0x630D⟩] State.reset
    byteAt t.committed.text.rt0 60 = 0x61 ∧ byteAt t.committed.text.rt0 63 = 0x00 ∧
    window t.committed 0x003 = 0x11 := by decide

/-- L1-3's second group: nothing after the carriage return is written. -/
theorem test_2A_stops_at_the_return :
    let t := applied [⟨0xC201, 0x2541, 0x6F0D, 0x5859⟩] State.reset
    t.scratch.rt = textBuffer [0, 0, 0, 0, 0x6F] ∧ t.committed.text.rt0 = t.scratch.rt := by decide

/-- V-RT-6: 2B at address 15 writes offsets 30 and 31 and does not complete. -/
theorem test_2B_address_fifteen :
    let t := applied [⟨0xC201, 0x2D4F, 0xC201, 0x6162⟩] State.reset
    byteAt t.scratch.rt 30 = 0x61 ∧ byteAt t.scratch.rt 31 = 0x62 ∧ t.committed.text = Committed.zero.text := by decide

/-- V-CT-2: the boundary values of a sample, and a negative offset. -/
theorem test_4A_negative_offset :
    let t := applied [⟨0xC201, 0x4541, 0xCBC3, 0x7EFF⟩] State.reset
    t.committed.clock.valid = true ∧ t.committed.clock.date = ⟨2020, 1, 1⟩ ∧ t.committed.clock.hour = 23 ∧
    t.committed.clock.minute = 59 ∧ t.committed.clock.offset = 0x21 := by
  refine ⟨?_, ?_, ?_, ?_, ?_⟩ <;> decide

/-- The same sample's offset, as the accessor and READ 0x009 report it. -/
theorem test_offset_byte_is_sign_extended :
    let m : Committed := { Committed.zero with clock := { Committed.zero.clock with offset := 0x21 } }
    window m 0x009 = 0xE1 := by decide

/-- V-CT-5: hour 24 is rejected, and the header is committed. -/
theorem test_4A_hour_24_rejected :
    let t := applied [⟨0x1234, 0x4461, 0xCBF3, 0x8000⟩] State.reset
    t.committed.clock = Committed.zero.clock ∧ t.committed.header = { pi := 0x1234, tp := true, pty := 3 } := by decide

/-- Rows of the date table of L1-5: leap days, the year 1900 and 2100, and the last day count. -/
theorem test_calendar_table :
    mjdToYmd 15078 = ⟨1900, 2, 28⟩ ∧ mjdToYmd 15079 = ⟨1900, 3, 1⟩ ∧ mjdToYmd 51603 = ⟨2000, 2, 29⟩ ∧
    mjdToYmd 58849 = ⟨2020, 1, 1⟩ ∧ mjdToYmd 58873 = ⟨2020, 1, 25⟩ ∧ mjdToYmd 65536 = ⟨2038, 4, 23⟩ ∧
    mjdToYmd 88128 = ⟨2100, 3, 1⟩ ∧ mjdToYmd 131071 = ⟨2217, 9, 27⟩ := by decide

/-- V-RP-1: Title and Artist from one RT+ group. -/
theorem test_11A_title_and_artist :
    let t := applied [⟨0xC201, 0xB550, 0x200A, 0x20C5⟩] withHello
    t.committed.title = textBuffer [0x48, 0x65, 0x6C, 0x6C, 0x6F] ∧
    t.committed.artist = textBuffer [0x57, 0x6F, 0x72, 0x6C, 0x64] ∧
    t.committed.tag1 = ⟨4, 6, 5⟩ := by decide

/-- V-RP-5: both tags are Title, and tag 1 wins. -/
theorem test_11A_later_tag_wins :
    let t := applied [⟨0xC201, 0xB550, 0x200A, 0x08C5⟩] withHello
    t.committed.title = textBuffer [0x57, 0x6F, 0x72, 0x6C, 0x64] ∧ t.committed.artist = Committed.zero.artist := by
  decide

/-- V-CL-3: the words of a 4A group with the version bit set are a 4B group, which sets only the header. -/
theorem test_4B_header_only :
    (applied [⟨0xC201, 0x4D41, 0xCBF2, 0xE782⟩] State.reset).committed =
      { Committed.zero with header := { pi := 0xC201, tp := true, pty := 10 } } := by decide

/-- V-CL-4's last group: 11B is unsupported with the default RTP_GROUP. -/
theorem test_11B_header_only :
    (applied [⟨0xC201, 0xBD50, 0x200A, 0x20C5⟩] withHello).committed.tag0 = Committed.zero.tag0 := by decide

/-- R83: with RTP_GROUP = 5B, 5B is RT+ and 11A is unsupported. -/
theorem test_rtp_row_follows_the_configuration :
    (applied [⟨0xC201, 0x5D50, 0x200A, 0x20C5⟩] otherState).committed.tag0 = ⟨1, 0, 5⟩ ∧
    (applied [⟨0xC201, 0xB550, 0x200A, 0x20C5⟩] otherState).committed.tag0 = ⟨0, 0, 0⟩ := by decide

/-- V-CTL-2: RESET with a group in the same cycle discards the group. -/
theorem test_reset_discards_the_group :
    let e : Edge := { rstN := true, softReset := true, grpValid := true, words := groupKE, extra := 0 }
    stateOf (step { applied [groupKE] State.reset with inputs := [.edge e] }) = State.reset := by decide

/-- The example of R167: READ 0x000 answers 0x01 and READ 0x001 answers 0xC2. -/
theorem test_read_pi :
    let s := applied [groupKE] State.reset
    (stateOf (step { s with inputs := [.read 0x000] })).rdData = 0x01 ∧
    (stateOf (step { s with inputs := [.read 0x001] })).rdData = 0xC2 := by decide

/-- The example of R169: an IDLE after a group leaves PI. -/
theorem test_idle_keeps_pi :
    (stateOf (step (applied [groupKE] State.reset))).committed.header.pi = 0xC201 := by decide

/-- An illegal configuration is refused (D38). -/
theorem test_illegal_configuration_refused :
    (match step { State.reset with cfg := { ctTitle := 4, ctArtist := 4 } } with
      | .refused .illegalConfiguration => true
      | _ => false) = true := by decide

/-- R41 and R44: a group of latency 2 is not visible in the cycle it is taken, and is after the next one. -/
theorem test_latency_two :
    let s := stateOf (step { State.reset with inputs := groupInputs groupKE 1 })
    s.committed = Committed.zero ∧ grpReady quietEdge s = false ∧
    (stateOf (step s)).committed.header.pi = 0xC201 ∧ (stateOf (step s)).inFlight = none := by decide

/-! ### Witnesses: for every statement with hypotheses, operands and a state that meet them -/

theorem witness_committed_zero : CommittedZero Committed.zero := by
  refine ⟨rfl, rfl, rfl, rfl, rfl, rfl, rfl, rfl, rfl, rfl, rfl, rfl, rfl, rfl, rfl, rfl, rfl, rfl, rfl, rfl, rfl, rfl, rfl,
    ?_, ?_, ?_, ?_, ?_⟩ <;> exact fun i => byteAt_zero _ i

/-- ZeroRegistersReadZeroEverywhere. -/
theorem test_witness_zero_registers : ∃ m : Committed, CommittedZero m := ⟨_, witness_committed_zero⟩

/-- A state in which the bytes of the string registers are all 0xFF. -/
def allOnes : Committed :=
  { Committed.zero with
      name := { Committed.zero.name with ps := Vector.replicate 8 0xFF }
      text := { Committed.zero.text with rt0 := Vector.replicate 64 0xFF, rt1 := Vector.replicate 64 0xFF }
      title := Vector.replicate 64 0xFF
      artist := Vector.replicate 64 0xFF }

/-- ReadWindowMap: the first and last address of each array, and of each reserved range (R50). -/
theorem test_witness_window_bounds :
    ([0x018, 0x01F, 0x040, 0x07F, 0x080, 0x0BF, 0x0C0, 0x0FF, 0x100, 0x13F].all
      fun a => window allOnes a == 0xFF) = true ∧
    ([0x00F, 0x013, 0x017, 0x020, 0x03F, 0x140, 0x1FF].all fun a => window allOnes a == 0x00) = true := by decide

/-- UndisturbedReadsAreOneSnapshot: the second of two bytes of PI. -/
theorem test_witness_undisturbed_reads :
    let s : State := { withHello with inputs := [.read 0x040, .read 0x041, .edge quietEdge] }
    s.cfg.wf = true ∧ 1 < 2 ∧
    s.inputs = (List.range 2).map (fun i => Input.read (BitVec.ofNat 9 (0x040 + i))) ++ [.edge quietEdge] := by decide

/-- DecodeOfEncode. -/
theorem test_witness_instr_wf : (Instr.read 0x1FF).wf = true := by decide

/-- EveryGroupHasExactlyOneRow: a row that selects a group, and one that does not. -/
theorem test_witness_row_selects :
    (rowOf (.grp2A ⟨0, false, 0, 0, 0, 0⟩)).selects (.group ⟨0xC201, 0x2541, 0, 0⟩) = true ∧
    (rowOf (.grp2B ⟨0, false, 0, 0, 0, 0⟩)).selects (.group ⟨0xC201, 0x2541, 0, 0⟩) = false := by decide

/-- CtrlValuesDecode: one edge for each of its five cases. -/
theorem test_witness_ctrl_cases :
    let busy : State := { State.reset with inFlight := some ⟨groupKE, 1⟩ }
    let edge : Bit → Bit → Edge := fun r v => ⟨true, r, v, groupKE, 0⟩
    instrAt (edge false false) State.reset = .idle none ∧
    instrAt (edge false true) State.reset = .apply groupKE ∧ State.reset.inFlight = none ∧
    instrAt (edge false true) busy = .idle (some groupKE) ∧ busy.inFlight ≠ none ∧
    instrAt (edge true false) busy = .reset none ∧ instrAt (edge true true) busy = .reset (some groupKE) := by decide

/-- PseudoRequestsCarryTheirOperands: each pseudo-request at the largest operands it admits. -/
theorem test_witness_pseudo_wf :
    otherConfig.wf = true ∧
    (Pseudo.ps0A 0xFFFF 1 31 1 1 1 3 255 255).wf = true ∧ (Pseudo.ps0B 0xFFFF 1 31 1 1 1 3 255 255).wf = true ∧
    (Pseudo.rt2A 0xFFFF 1 31 1 15 255 255 255 255).wf = true ∧ (Pseudo.rt2B 0xFFFF 1 31 1 15 255 255).wf = true ∧
    (Pseudo.ct4A 0xFFFF 1 31 0x1FFFF 31 63 1 31).wf = true ∧
    (Pseudo.rtp 0xFFFF 1 31 1 63 63 63 63 63 31).wf = true := by decide

/-- UnsupportedRowsCommitOnlyTheHeader: a row under the default configuration, and 11A under another. -/
theorem test_witness_unsupported_rows :
    (∃ r ∈ openRows, r.1 = 1 ∧ State.reset.cfg.isRtp r.1 r.2.1 = false) ∧
    (∃ r ∈ openRows, r.1 = 11 ∧ r.2.1 = false ∧ otherState.cfg.isRtp r.1 r.2.1 = false) :=
  ⟨⟨(1, false, .grp1A), by simp [openRows], rfl, rfl⟩, ⟨(11, false, .grp11A), by simp [openRows], rfl, rfl, rfl⟩⟩

/-- UnreadBitsHaveNoEffect: for each clause two different groups that meet it. -/
theorem test_witness_unread_bits :
    let k := Config.default
    let agree : RdsGroup → RdsGroup → Prop := fun g h =>
      g ≠ h ∧ g.a = h.a ∧ g.b.extractLsb' 5 11 = h.b.extractLsb' 5 11
    (agree ⟨1, 0x0548, 2, 3⟩ ⟨1, 0x0548, 9, 3⟩ ∧ classify k (typeOf 0x0548) (versionOf 0x0548) = .ps0A) ∧
    (agree ⟨1, 0x0D48, 2, 3⟩ ⟨1, 0x0D48, 9, 3⟩ ∧ classify k (typeOf 0x0D48) (versionOf 0x0D48) = .ps0B) ∧
    (agree ⟨1, 0x2D48, 2, 3⟩ ⟨1, 0x2D48, 9, 3⟩ ∧ classify k (typeOf 0x2D48) (versionOf 0x2D48) = .rt2B) ∧
    (agree ⟨1, 0x4541, 2, 3⟩ ⟨1, 0x455D, 2, 3⟩ ∧ classify k (typeOf 0x4541) (versionOf 0x4541) = .ct4A ∧
      (0x4541 : Word).extractLsb' 0 2 = (0x455D : Word).extractLsb' 0 2) ∧
    (agree ⟨1, 0xB550, 2, 3⟩ ⟨1, 0xB558, 2, 3⟩ ∧ classify k (typeOf 0xB550) (versionOf 0xB550) = .rtPlus ∧
      (0xB550 : Word).getLsbD 4 = (0xB558 : Word).getLsbD 4 ∧
      (0xB550 : Word).extractLsb' 0 3 = (0xB558 : Word).extractLsb' 0 3) ∧
    (agree ⟨1, 0xF000, 2, 3⟩ ⟨1, 0xF01F, 8, 9⟩ ∧
      classify k (typeOf 0xF000) (versionOf 0xF000) = .unsupported) := by decide

/-- EarlierHeadersHaveNoEffect: an APPLY, and a row. -/
theorem test_witness_apply_or_row :
    (∃ g, Instr.apply groupKE = .apply g) ∧ (∃ x, encode (.grp0A ⟨1, true, 2, 3, 4, 5⟩) = .group x) :=
  ⟨⟨_, rfl⟩, ⟨_, rfl⟩⟩

/-- PsGroupResult, PsGroupFrame and LoneAddressThreeCommitsZeros: both rows, and an address 3. -/
theorem test_witness_ps_rows :
    Instr.grp0A ∈ psRows ∧ Instr.grp0B ∈ psRows ∧ (0b01011 : BitVec 5).extractLsb' 0 2 = 3 := by
  simp [psRows]

/-- LoneAddressThreeCommitsZeros: the scratch of the reset state, also in a state whose committed registers are not 0. -/
theorem test_witness_ps_scratch_zero :
    (∀ i, i < 8 → byteAt State.reset.scratch.ps i = 0x00) ∧ State.reset.scratch.di = 0 ∧
    (∀ i, i < 8 → byteAt withHello.scratch.ps i = 0x00) ∧ withHello.scratch.di = 0 ∧
    withHello.committed ≠ State.reset.committed := by decide

/-- PsWindowIsOrderIndependent: two windows of the same last segments, in different orders and of both versions, with a repeated
address in one. -/
theorem test_witness_ps_window :
    let p : Bit → BitVec 5 → Word → Bit × Payload := fun v gs d => (v, ⟨0xC201, true, 10, gs, 0, d⟩)
    let xs := [p false 0 0x5151, p false 0 0x4B45, p true 5 0x5841, p false 2 0x2020]
    let ys := [p true 2 0x2020, p false 5 0x5841, p false 0 0x4B45]
    let addr : Bit × Payload → BitVec 2 := fun q => q.2.gs.extractLsb' 0 2
    let last : List (Bit × Payload) → BitVec 2 → Option (Word × Bit) :=
      fun l a => ((l.filter fun q => addr q == a).getLast?).map fun q => (q.2.d, q.2.gs.getLsbD 2)
    (∀ q ∈ xs, addr q ≠ 3) ∧ (∀ q ∈ ys, addr q ≠ 3) ∧ addr (p false 3 0x2020) = 3 ∧
      (∀ a, last xs a = last ys a) := by decide

/-- RtGroupFrame: both rows, and a segment that does not complete. -/
theorem test_witness_rt_incomplete :
    let x : Payload := ⟨0xC201, true, 10, 0b00000, 0x4865, 0x6C6C⟩
    (0x0D : Byte) ∉ (rtFields2A x).seg ∧ (rtFields2A x).off + (rtFields2A x).seg.length < 64 ∧
    (0x0D : Byte) ∉ (rtFields2B x).seg ∧ (rtFields2B x).off + (rtFields2B x).seg.length < 64 := by decide

/-- RtGroupResult and VersionBKeepsTheUpperHalf: both rows, the last segment of a 2A group, which ends at position 63, and the
last of a 2B group, which ends at position 31; and a 2B segment with a carriage return. -/
theorem test_witness_rt_rows :
    let x : Payload := ⟨0xC201, true, 10, 0b01111, 0x6162, 0x630D⟩
    (rtFields2A x).off + (rtFields2A x).seg.length = 64 ∧ rtAddrOf x = 15 ∧
    (rtFields2B x).off + (rtFields2B x).seg.length = 32 ∧ (0x0D : Byte) ∈ (rtFields2B x).seg := by decide

/-- CompletingGroupNamesTheVariant: "Hell" with flip 0, then "o" and a carriage return with flip 1 (V-RT-11). -/
theorem test_witness_completing_group :
    let f := rtFields2A ⟨0xC201, true, 10, 0b00000, 0x4865, 0x6C6C⟩
    let g := rtFields2A ⟨0xC201, true, 10, 0b10001, 0x6F0D, 0x2020⟩
    (0x0D : Byte) ∉ f.seg ∧ f.off + f.seg.length < 64 ∧ (0x0D : Byte) ∈ g.seg ∧ f.flip ≠ g.flip ∧
    f.off + f.seg.length ≤ g.off := by decide

/-- OffsetIsSignedHalfHours: the offset register of -31 half-hours. -/
theorem test_witness_offset : ∃ m : Committed, m.clock.offset = offsetOf true 31 ∧ m.clock.offset = 0x21 :=
  ⟨{ Committed.zero with clock := { Committed.zero.clock with offset := 0x21 } }, by decide, rfl⟩

/-- ConsecutiveDayCountsAreConsecutiveDates and EveryDayCountIsAValidDate: the last day counts of their ranges. -/
theorem test_witness_day_counts : 131070 < 131071 ∧ 131071 < 131072 := by decide

/-- ClockGroupFrame: a rejected hour, and a rejected minute. -/
theorem test_witness_rejected_samples :
    24 ≤ (ctFields ⟨1, true, 10, 1, 0xCBF3, 0x8000⟩).hour.toNat ∧
    60 ≤ (ctFields ⟨1, true, 10, 1, 0xCBF2, 0xBF00⟩).minute.toNat := by decide

/-- RtPlusNotRunningCommitsOnlyTheHeader, RtPlusRunningResult and RtPlusFrame: the RT+ row under the default configuration and
under another, with the running flag 0 and 1. -/
theorem test_witness_rt_plus_rows :
    ((11, false, .grp11A) ∈ openRows ∧ State.reset.cfg.isRtp 11 false = true) ∧
    ((5, true, .grp5B) ∈ openRows ∧ otherState.cfg.isRtp 5 true = true) ∧
    (0b00000 : BitVec 5).getLsbD 4 = false ∧ (0b10000 : BitVec 5).getLsbD 4 = true := by
  simp [openRows]; decide

/-- ExtractionBeforeAnyTextIsEmpty: the reset state. -/
theorem test_witness_no_text_yet :
    State.reset.cfg.isRtp 11 false = true ∧
    (∀ i, byteAt (State.reset.committed.text.bank State.reset.committed.text.flag) i = 0x00) ∧
    titleOf State.reset.committed = [] ∧ artistOf State.reset.committed = [] :=
  ⟨rfl, fun i => byteAt_zero 64 i, by decide, by decide⟩

/-- RtPlusRunningResult: each side of the bounds check, 63 + 1 in bounds and 63 + 2 out of it (R156), for both tags. -/
theorem test_witness_tag_bounds :
    let inside : Payload := ⟨1, true, 10, 0b10000, 0b0011111110000010, 0b0010011111100001⟩
    let outside : Payload := ⟨1, true, 10, 0b10000, 0b0011111110000100, 0b0010011111100010⟩
    (rtpFields inside).tag0 = ⟨1, 63, 1⟩ ∧ (rtpFields inside).tag1 = ⟨4, 63, 1⟩ ∧
    (rtpFields outside).tag0 = ⟨1, 63, 2⟩ ∧ (rtpFields outside).tag1 = ⟨4, 63, 2⟩ := by decide

/-- StepRunsTheRequestedInstruction: an edge, a READ, and no input. -/
theorem test_witness_step_inputs :
    State.reset.cfg.wf = true ∧ State.reset.inFlight = none ∧ State.reset.inputs = [] ∧
    ({ State.reset with inputs := [.edge (groupEdge groupKE 0)] } : State).inputs = .edge (groupEdge groupKE 0) :: [] ∧
    (groupEdge groupKE 0).rstN = true ∧ (groupEdge groupKE 0).extra = 0 ∧
    ({ State.reset with inputs := [.read 3] } : State).inputs = .read 3 :: [] := by decide

/-- SoftResetWinsAndCancels and PowerUpResetWinsOverEverything: a busy block, with a group presented. -/
theorem test_witness_reset_edges :
    let s : Edge → State := fun e =>
      { withHello with inFlight := some ⟨groupKE, 2⟩, inputs := [.edge e, .edge quietEdge] }
    let soft : Edge := ⟨true, true, true, groupKE, 0⟩
    let power : Edge := ⟨false, true, true, groupKE, 0⟩
    (s soft).cfg.wf = true ∧ (s soft).inputs = .edge soft :: [.edge quietEdge] ∧ soft.rstN = true ∧
    soft.softReset = true ∧ soft.grpValid = true ∧ consumes soft (s soft) = true ∧
    (s power).inputs = .edge power :: [.edge quietEdge] ∧ power.rstN = false := by decide

/-- AcceptedGroupIsNotYetVisible, ApplyLandsWholeAfterItsLatency and LatencyIsNotObservable. -/
theorem test_witness_latency :
    let s : State := { State.reset with inputs := groupInputs groupKE 2 }
    s.cfg.wf = true ∧ s.inFlight = none ∧ s.inputs = .edge (groupEdge groupKE (1 + 1)) :: [.edge quietEdge, .edge quietEdge] ∧
    s.inputs = groupInputs groupKE 2 ++ [] ∧ s.inputs = streamInputs [(groupKE, 2)] ∧ quietEdge.softReset = false := by
  decide

/-- ReadyUnlessAnApplyIsInProgress: an edge with an APPLY of latency 1. -/
theorem test_witness_latency_one :
    let s : State := { State.reset with inputs := [.edge (groupEdge groupKE 0)] }
    s.inFlight = none ∧ (groupEdge groupKE 0).extra = 0 ∧ (groupEdge groupKE 0).rstN = true ∧
    (groupEdge groupKE 0).softReset = false ∧ (stateOf (step s)).committed.header.pi = 0xC201 ∧
    (stateOf (step s)).inFlight = none := by decide

/-- WaitingGroupIsAppliedNext. -/
theorem test_witness_waiting_group :
    let s : State := { State.reset with
      inFlight := some ⟨groupKE, 1⟩
      inputs := [.edge (groupEdge groupKE 0), .edge (groupEdge groupKE 0), .read 3] }
    s.cfg.wf = true ∧ s.inFlight = some { group := groupKE, left := 0 + 1 } ∧
    s.inputs = List.replicate (0 + 2) (.edge (groupEdge groupKE 0)) ++ [.read 3] := by decide

/-- CommittedDataDoesNotExpire: an idle host that also reads. -/
theorem test_witness_idle_host :
    let s : State := { withHello with inputs := [.edge quietEdge, .read 0x040, .edge quietEdge] }
    s.cfg.wf = true ∧ s.inFlight = none ∧ (∀ i ∈ s.inputs, i.requestsNothing = true) := by decide

/-- StepRefusesOnlyIllegalConfigurations: both cases. -/
theorem test_witness_both_configurations :
    State.reset.cfg.wf = true ∧ ({ rtpType := 2 } : Config).wf = false := by decide

/-- RegistersChangeOnlyByTheirOwnRule and ValidBitsStaySet: instructions that are no RESET, complete, and change the register
of each clause. -/
theorem test_witness_registers_change :
    let t : List RdsGroup → State := fun gs => applied gs withHello
    (t [⟨1, 0x001F, 0, 0x4142⟩]).committed.flags ≠ withHello.committed.flags ∧
    (t [⟨1, 0x001F, 0, 0x4142⟩]).scratch.ps ≠ withHello.scratch.ps ∧
    (t [⟨1, 0x001F, 0, 0x4142⟩]).scratch.di ≠ withHello.scratch.di ∧
    (t [⟨1, 0x001F, 0, 0x4142⟩]).committed.name ≠ withHello.committed.name ∧
    (t [⟨1, 0x2010, 0x0D00, 0⟩]).scratch.rtFlag ≠ withHello.scratch.rtFlag ∧
    (t [⟨1, 0x2010, 0x0D00, 0⟩]).committed.text ≠ withHello.committed.text ∧
    (t [⟨1, 0x4000, 0, 0⟩]).committed.clock ≠ withHello.committed.clock ∧
    (t [⟨1, 0xB010, 0x200A, 0⟩]).committed.title ≠ withHello.committed.title ∧
    withHello.committed.text.valid0 = true := by decide

theorem test_witness_no_reset : (∀ d, Instr.apply groupKE ≠ .reset d) ∧
    ∃ t, exec (.apply groupKE) State.reset = .next t :=
  ⟨(fun _ h => nomatch h), ⟨_, rfl⟩⟩

/-- ScratchIsHiddenUntilACommit: an RT+ row is no type-0 group at address 3 and no radiotext group. -/
theorem test_witness_no_scratch_commit :
    let i : Instr := .grp11A ⟨1, true, 10, 0b10000, 0x200A, 0x20C5⟩
    (∀ mk ∈ psRows, ∀ x, rowInstr i = mk x → x.gs.extractLsb' 0 2 ≠ 3) ∧
    (∀ r ∈ [(Instr.grp2A, rtFields2A), (Instr.grp2B, rtFields2B)], ∀ x, rowInstr i = r.1 x →
      (0x0D : Byte) ∉ (r.2 x).seg ∧ (r.2 x).off + (r.2 x).seg.length < 64) := by
  simp [psRows, rowInstr]

/-- EveryStepKeepsTheInvariant, EveryStepKeepsTheDateValid and NoStepChangesTheConfiguration: a state with an accepted clock
sample and an APPLY in progress, and a step of it. -/
theorem test_witness_invariant :
    ∃ s t : State, s.Inv ∧ s.committed.clock.valid = true ∧ s.inFlight ≠ none ∧ ClockDateValid s.committed ∧
      step s = .next t := by
  refine ⟨{ applied [⟨0xC201, 0x4541, 0xCBF2, 0xE782⟩] State.reset with inFlight := some ⟨groupKE, 2⟩ }, _,
    ?_, by decide, by decide, ?_, rfl⟩
  · unfold State.Inv ClockInRange TagsInBounds
    refine ⟨by decide, by decide, by decide, ?_⟩
    intro f h
    cases h
    decide
  · unfold ClockDateValid
    decide

end Sys2Proof.Tests
end

section
/-! PROOF. What completes: every instruction, and with it every cycle, edge, input and step. -/

namespace Sys2Proof.Machine

/-- Every arm of the dispatch is `.next` of the decoder's state (R90, R175). -/
theorem exec_completes (i : Instr) (s : State) : ∃ t, exec i s = .next t := by
  cases i <;> exact ⟨_, rfl⟩

/-- A cycle of an idle or busy block completes: what lands is an APPLY, which completes. -/
theorem advance_completes (s : State) : ∃ t, advance s = .next t := by
  cases hf : s.inFlight with
  | none => exact ⟨s, advance_of_none hf⟩
  | some f =>
    rw [advance_of_some hf]
    split
    · exact exec_completes _ _
    · exact ⟨_, rfl⟩

/-- After an operation that completes, the cycle that follows starts from its state. -/
theorem runThenAdvance_of_exec {i : Instr} {s t : State} (h : exec i s = .next t) :
    runThenAdvance i s = advance t := by
  simp [runThenAdvance, h]

theorem runThenAdvance_completes (i : Instr) (s : State) : ∃ t, runThenAdvance i s = .next t := by
  obtain ⟨t, ht⟩ := exec_completes i s
  rw [runThenAdvance_of_exec ht]
  exact advance_completes t

/-- The three things an edge does: it clears, takes a group for later, or runs an operation and a cycle. -/
theorem clockEdge_completes (e : Edge) (s : State) : ∃ t, clockEdge e s = .next t := by
  unfold clockEdge
  split
  · split
    · exact ⟨_, rfl⟩
    · exact runThenAdvance_completes _ _
  · exact ⟨_, rfl⟩

theorem runInput_completes (s : State) : ∃ t, runInput s = .next t := by
  unfold runInput
  split
  · exact clockEdge_completes _ _
  · exact clockEdge_completes _ _
  · exact exec_completes _ _

theorem step_of_wf {s : State} (h : s.cfg.wf = true) : step s = runInput s := by
  simp [step, h]

theorem step_of_not_wf {s : State} (h : s.cfg.wf = false) : step s = .refused .illegalConfiguration := by
  simp [step, h]

/-- Settles O49: `step` looks at the configuration alone, and every input completes. -/
theorem stepRefusesOnlyIllegalConfigurations : Obligations.StepRefusesOnlyIllegalConfigurations := by
  unfold Obligations.StepRefusesOnlyIllegalConfigurations
  refine fun s => ⟨fun h => ?_, step_of_not_wf⟩
  rw [step_of_wf h]
  exact runInput_completes s

end Sys2Proof.Machine
end

section
/-! PROOF. The configurations that R10 allows. -/

namespace Sys2Proof

/-- The five pairs of R102, as a list. -/
theorem isFixedPair_iff_mem (type : BitVec 4) (version : Bit) :
    isFixedPair type version = true ↔
      (type, version) ∈ [((0 : BitVec 4), false), (0, true), (2, false), (2, true), (4, false)] := by
  cases version <;> simp [isFixedPair, or_assoc]

/-- Settles O50: the check reads the fixed pairs and the two codes, nothing else. -/
theorem legalConfigurations : Obligations.LegalConfigurations := by
  unfold Obligations.LegalConfigurations
  intro k
  rw [← isFixedPair_iff_mem, Config.wf]
  simp

end Sys2Proof
end

section
/-! PROOF. A group's decoder neither reads nor writes the host's side of the state: it does the same to the same
registers behind another interface. So it keeps the interface, and inputs still to come do not influence it. -/

namespace Sys2Proof.Machine

/-- The registers of `s` behind the interface of `d`: an APPLY in progress, the `rd_addr` port, the inputs to
come and the configuration (the four fields of `SameInterface`). -/
def State.withInterface (s d : State) : State :=
  { s with inFlight := d.inFlight, rdAddr := d.rdAddr, inputs := d.inputs, cfg := d.cfg }

@[simp] theorem State.withInterface_committed (s d : State) : (s.withInterface d).committed = s.committed := rfl
@[simp] theorem State.withInterface_scratch (s d : State) : (s.withInterface d).scratch = s.scratch := rfl
@[simp] theorem State.withInterface_cfg (s d : State) : (s.withInterface d).cfg = d.cfg := rfl
@[simp] theorem State.withInterface_self (s : State) : s.withInterface s = s := rfl

/-- Taking over an interface changes nothing exactly when it is the state's own already. -/
theorem State.withInterface_eq_self_iff (s d : State) : s.withInterface d = s ↔ SameInterface d s := by
  constructor
  · intro h
    rw [← h]
    exact ⟨rfl, rfl, rfl, rfl⟩
  · rintro ⟨hflight, haddr, hinputs, hcfg⟩
    rw [State.withInterface, ← hflight, ← haddr, ← hinputs, ← hcfg]

theorem psDecode_withInterface (x : Payload) (s d : State) :
    psDecode x (s.withInterface d) = (psDecode x s).withInterface d := by
  simp only [psDecode_eq, commitAtThree_eq, apply_ite (State.withInterface · d)]
  rfl

theorem rtDecode_withInterface (f : RtFields) (s d : State) :
    rtDecode f (s.withInterface d) = (rtDecode f s).withInterface d := by
  simp only [rtDecode, State.withInterface_scratch, apply_ite (State.withInterface · d)]
  rfl

theorem ctDecode_withInterface (x : Payload) (s d : State) :
    ctDecode x (s.withInterface d) = (ctDecode x s).withInterface d := by
  simp only [ctDecode, apply_ite (State.withInterface · d)]
  rfl

/-! RT+ reads one part of the interface, the content-type codes of the configuration (R154). -/

section
variable {s d : State} (hcfg : d.cfg = s.cfg)
include hcfg

theorem commitDerived_withInterface (t : Tag) :
    commitDerived t (s.withInterface d) = (commitDerived t s).withInterface d := by
  simp only [commitDerived, State.withInterface_cfg, hcfg, apply_ite (State.withInterface · d)]
  rfl

theorem processTag0_withInterface (t : Tag) :
    processTag0 t (s.withInterface d) = (processTag0 t s).withInterface d := by
  have hderived := commitDerived_withInterface (s := s.commitTag0 t) hcfg t
  simp only [processTag0, apply_ite (State.withInterface · d), ← hderived]
  rfl

theorem processTag1_withInterface (t : Tag) :
    processTag1 t (s.withInterface d) = (processTag1 t s).withInterface d := by
  have hderived := commitDerived_withInterface (s := s.commitTag1 t) hcfg t
  simp only [processTag1, apply_ite (State.withInterface · d), ← hderived]
  rfl

theorem rtpDecode_withInterface (x : Payload) :
    rtpDecode x (s.withInterface d) = (rtpDecode x s).withInterface d := by
  have hcfg0 : (processTag0 (rtpFields x).tag0 s).cfg = s.cfg := by
    simpa using congrArg State.cfg (processTag0_withInterface (s := s) (d := s) rfl (rtpFields x).tag0)
  simp only [rtpDecode, apply_ite (State.withInterface · d), processTag0_withInterface hcfg,
    processTag1_withInterface (hcfg.trans hcfg0.symm)]

theorem decodeCase_withInterface (k : GroupCase) (x : Payload) :
    decodeCase k x (s.withInterface d) = (decodeCase k x s).withInterface d := by
  cases k with
  | ps0A => exact psDecode_withInterface x s d
  | ps0B => exact psDecode_withInterface x s d
  | rt2A => exact rtDecode_withInterface _ s d
  | rt2B => exact rtDecode_withInterface _ s d
  | ct4A => exact ctDecode_withInterface x s d
  | rtPlus => exact rtpDecode_withInterface hcfg x
  | unsupported => rfl

end

/-- The state an APPLY leaves (R100). -/
def State.afterApply (s : State) (g : RdsGroup) : State :=
  decodeCase (classify s.cfg (typeOf g.b) (versionOf g.b)) (payloadOf g) (s.commitHeader g.a (tpOf g.b) (ptyOf g.b))

theorem exec_apply (g : RdsGroup) (s : State) : exec (.apply g) s = .next (s.afterApply g) := rfl

theorem afterApply_withInterface {s d : State} (hcfg : d.cfg = s.cfg) (g : RdsGroup) :
    (s.withInterface d).afterApply g = (s.afterApply g).withInterface d := by
  simp only [State.afterApply, State.withInterface_cfg, hcfg]
  exact decodeCase_withInterface (s := s.commitHeader g.a (tpOf g.b) (ptyOf g.b)) hcfg _ _

/-- An APPLY keeps the interface (R101, R22). -/
theorem afterApply_sameInterface (s : State) (g : RdsGroup) : SameInterface s (s.afterApply g) :=
  (State.withInterface_eq_self_iff _ s).mp (afterApply_withInterface rfl g).symm

/-- The state with another list of inputs still to come. -/
def State.withInputs (s : State) (inputs : List Input) : State := { s with inputs := inputs }

/-- Inputs still to come have no effect on an APPLY. -/
theorem afterApply_withInputs (s : State) (g : RdsGroup) (inputs : List Input) :
    (s.withInputs inputs).afterApply g = (s.afterApply g).withInputs inputs := by
  obtain ⟨hflight, haddr, -, hcfg⟩ := afterApply_sameInterface s g
  calc (s.withInputs inputs).afterApply g
      = (s.afterApply g).withInterface (s.withInputs inputs) :=
        afterApply_withInterface (s := s) (d := s.withInputs inputs) rfl g
    _ = (s.afterApply g).withInputs inputs := by
        simp only [State.withInterface, State.withInputs, ← hflight, ← haddr, ← hcfg]

end Sys2Proof.Machine
end

section
/-! PROOF. A stream of groups, edge by edge: each group, taken by an idle block, lands whole after its latency. -/

namespace Sys2Proof.Machine

/-! ### Runs -/

/-- A run of `a + b` steps goes on from where its first `a` steps end. -/
theorem run_add_of_next (M : Host.Core) {a : Nat} (b : Nat) {s t : M.State} (h : M.run a s = .next t) :
    M.run (a + b) s = M.run b t := by
  induction a generalizing s with
  | zero =>
    cases h
    rw [Nat.zero_add]
  | succ a ih =>
    rw [Nat.succ_add]
    simp only [Host.Core.run] at h ⊢
    cases hstep : M.step s with
    | next u =>
      rw [hstep] at h
      exact ih h
    | fault r => simp [hstep] at h
    | refused r => simp [hstep] at h

theorem run_succ_of_step {s t : State} (k : Nat) (h : step s = .next t) :
    Sys2Proof.core.run (k + 1) s = Sys2Proof.core.run k t := by
  have hcore : Sys2Proof.core.step s = .next t := h
  simp only [Host.Core.run, hcore]

theorem run_one_of_step {s t : State} (h : step s = .next t) : Sys2Proof.core.run 1 s = .next t :=
  run_succ_of_step 0 h

theorem dropInput_of_cons {s : State} {i : Input} {rest : List Input} (hin : s.inputs = i :: rest) :
    s.dropInput = s.withInputs rest := by
  simp [State.dropInput, State.withInputs, hin]

theorem step_of_edge {s : State} {e : Edge} {rest : List Input} (hwf : s.cfg.wf = true)
    (hin : s.inputs = .edge e :: rest) {o : Host.Outcome State Fault Refusal}
    (hedge : clockEdge e (s.withInputs rest) = o) : step s = o := by
  simp [step_of_wf hwf, runInput, dropInput_of_cons hin, hin, hedge]

/-! ### The edges of a stream -/

/-- An idle host's edge only lets the cycle pass (R46). -/
theorem clockEdge_quietEdge (s : State) : clockEdge quietEdge s = advance s := rfl

/-- The APPLY in progress lands at the last of its cycles. -/
theorem clockEdge_quietEdge_last {s : State} {g : RdsGroup} (hflight : s.inFlight = some { group := g, left := 1 }) :
    clockEdge quietEdge s = .next (s.land.afterApply g) :=
  advance_of_some hflight

/-- Before the last of its cycles only their count falls. -/
theorem clockEdge_quietEdge_earlier {s : State} {g : RdsGroup} {n : Nat}
    (hflight : s.inFlight = some { group := g, left := n + 2 }) :
    clockEdge quietEdge s = .next (s.accept g (n + 1)) := by
  rw [clockEdge_quietEdge, advance_of_some hflight, if_neg (by simp)]
  rfl

/-- With no APPLY in progress, a group presented is an APPLY of it (R41, R72). -/
theorem instrAt_groupEdge {s : State} (hidle : s.inFlight = none) (g : RdsGroup) (extra : Nat) :
    instrAt (groupEdge g extra) s = .apply g := by
  have hctrl : ctrlOf (groupEdge g extra) = 0b01 := by simp [ctrlOf, groupEdge]
  rw [instrAt, grpReady_of_none rfl hidle, hctrl]
  rfl

/-- A group of latency 1 is applied within the step of its edge. -/
theorem clockEdge_groupEdge_zero {s : State} (hidle : s.inFlight = none) (g : RdsGroup) :
    clockEdge (groupEdge g 0) s = .next (s.afterApply g) := by
  obtain ⟨hflight, -, -, -⟩ := afterApply_sameInterface s g
  calc clockEdge (groupEdge g 0) s
      = runThenAdvance (.apply g) s := by simp only [clockEdge, instrAt_groupEdge hidle]; rfl
    _ = advance (s.afterApply g) := runThenAdvance_of_exec (exec_apply g s)
    _ = .next (s.afterApply g) := advance_of_none (hflight.trans hidle)

/-- A group of a longer latency is only taken. -/
theorem clockEdge_groupEdge_succ {s : State} (hidle : s.inFlight = none) (g : RdsGroup) (n : Nat) :
    clockEdge (groupEdge g (n + 1)) s = .next (s.accept g (n + 1)) := by
  simp only [clockEdge, instrAt_groupEdge hidle]
  rfl

/-! ### One group -/

/-- An APPLY in progress with `n + 1` cycles left lands, whole, at the last of `n + 1` idle edges (R41, R52). -/
theorem run_quietEdges {s : State} {g : RdsGroup} {n : Nat} {rest : List Input} (hwf : s.cfg.wf = true)
    (hflight : s.inFlight = some { group := g, left := n + 1 })
    (hin : s.inputs = List.replicate (n + 1) (.edge quietEdge) ++ rest) :
    Sys2Proof.core.run (n + 1) s = exec (.apply g) (s.land.withInputs rest) := by
  induction n generalizing s with
  | zero =>
    exact run_one_of_step (step_of_edge hwf hin (clockEdge_quietEdge_last (s := s.withInputs rest) hflight))
  | succ n ih =>
    have hstep := step_of_edge hwf hin
      (clockEdge_quietEdge_earlier (s := s.withInputs (List.replicate (n + 1) (.edge quietEdge) ++ rest)) hflight)
    rw [run_succ_of_step (n + 1) hstep]
    exact ih hwf rfl rfl

/-- A group presented to an idle block, with the rest of its latency left to it, does what its APPLY does (R41). -/
theorem run_groupInputs {s : State} {g : RdsGroup} {extra : Nat} {rest : List Input} (hwf : s.cfg.wf = true)
    (hidle : s.inFlight = none) (hin : s.inputs = groupInputs g extra ++ rest) :
    Sys2Proof.core.run (extra + 1) s = exec (.apply g) (s.withInputs rest) := by
  cases extra with
  | zero =>
    exact run_one_of_step (step_of_edge hwf hin (clockEdge_groupEdge_zero (s := s.withInputs rest) hidle g))
  | succ n =>
    have hstep := step_of_edge hwf hin
      (clockEdge_groupEdge_succ (s := s.withInputs (List.replicate (n + 1) (.edge quietEdge) ++ rest)) hidle g n)
    have hland : s.land = s := by rw [State.land, ← hidle]
    rw [run_succ_of_step (n + 1) hstep, ← hland]
    exact run_quietEdges hwf rfl rfl

/-! ### The stream -/

theorem length_streamInputs_cons (g : RdsGroup) (extra : Nat) (gs : List (RdsGroup × Nat)) :
    (streamInputs ((g, extra) :: gs)).length = (extra + 1) + (streamInputs gs).length := by
  simp [streamInputs, groupInputs, Nat.add_right_comm]

/-- The first APPLY of a list of operations, and then the rest from the state it leaves. -/
theorem runInstrs_apply_cons (g : RdsGroup) (is : List Instr) (s : State) :
    runInstrs (.apply g :: is) s = runInstrs is (s.afterApply g) := rfl

/-- A stream runs as its groups applied one after another: each lands in its own stretch of edges, and the inputs
still to come have no effect on it. -/
theorem run_streamInputs {s : State} {gs : List (RdsGroup × Nat)} (hwf : s.cfg.wf = true) (hidle : s.inFlight = none)
    (hin : s.inputs = streamInputs gs) :
    Sys2Proof.core.run (streamInputs gs).length s = runInstrs (gs.map fun p => .apply p.1) (s.withInputs []) := by
  induction gs generalizing s with
  | nil =>
    have hsame : s.withInputs [] = s := by rw [State.withInputs, ← show s.inputs = [] from hin]
    exact congrArg Host.Outcome.next hsame.symm
  | cons p gs ih =>
    obtain ⟨g, extra⟩ := p
    obtain ⟨hflight, -, -, hcfg⟩ := afterApply_sameInterface s g
    have hgroup : Sys2Proof.core.run (extra + 1) s = .next ((s.afterApply g).withInputs (streamInputs gs)) := by
      rw [← afterApply_withInputs]
      exact run_groupInputs hwf hidle hin
    have hrest := ih (s := (s.afterApply g).withInputs (streamInputs gs)) (hcfg ▸ hwf) (hflight.trans hidle) rfl
    rw [length_streamInputs_cons, run_add_of_next _ _ hgroup, hrest, List.map_cons, runInstrs_apply_cons,
      afterApply_withInputs]
    rfl

/-- Settles O45, by induction on the stream. -/
theorem latencyIsNotObservable : Obligations.LatencyIsNotObservable := by
  unfold Obligations.LatencyIsNotObservable
  intro s gs hwf hidle hin
  exact run_streamInputs hwf hidle hin

end Sys2Proof.Machine
end

section
/-! PROOF. What one instruction can do, said once: the decoder its row calls, on the state after the header commit, or
one of the three control operations. An APPLY counts as the row of its group. -/

namespace Sys2Proof.Machine

/-- The two radiotext rows, each with its segment layout (R121, R122). -/
def rtRows : List ((Payload → Instr) × (Payload → RtFields)) :=
  [(Instr.grp2A, rtFields2A), (Instr.grp2B, rtFields2B)]

/-- `RowEffect i f`: `f` is the effect on every state that the row of `i` has by its own rule. -/
inductive RowEffect (i : Instr) : (State → State) → Prop
  | ps {mk x} (hmk : mk ∈ psRows) (hrow : rowInstr i = mk x) : RowEffect i fun s => psDecode x (s.header x)
  | rt {r x} (hr : r ∈ rtRows) (hrow : rowInstr i = r.1 x) : RowEffect i fun s => rtDecode (r.2 x) (s.header x)
  | ct {x} (hrow : rowInstr i = .grp4A x) : RowEffect i fun s => ctDecode x (s.header x)
  | openRow {r x} (hr : r ∈ openRows) (hrow : rowInstr i = r.2.2 x) : RowEffect i (openPair r.1 r.2.1 x)
  | reset {d} (hreset : i = .reset d) : RowEffect i State.clearAll
  | idle {w} (hidle : i = .idle w) : RowEffect i id
  | read {addr} (hread : i = .read addr) : RowEffect i fun s => s.setRdAddr addr

/-! ### The open pairs (R83, R103) -/

/-- The pairs without a fixed decoder are those of the open rows. -/
theorem mem_openRows_of_not_isFixedPair (type : BitVec 4) (version : Bit) (h : isFixedPair type version = false) :
    (type, version) ∈ openRows.map fun r => (r.1, r.2.1) := by
  revert type version
  decide

/-- An open row is the row of its pair. -/
theorem groupRow_of_mem_openRows (x : Payload) : ∀ r ∈ openRows, groupRow r.1 r.2.1 x = r.2.2 x := by
  simp only [openRows, List.forall_mem_cons, List.not_mem_nil, false_imp_iff, implies_true, and_true]
  and_intros <;> rfl

/-- No test of R100 for a fixed pair takes a group of an open one. -/
theorem afterApply_openPair (s : State) (g : RdsGroup) (h : isFixedPair (typeOf g.b) (versionOf g.b) = false) :
    s.afterApply g = openPair (typeOf g.b) (versionOf g.b) (payloadOf g) s := by
  have hfixed : (typeOf g.b, versionOf g.b) ∉
      [((0 : BitVec 4), false), (0, true), (2, false), (2, true), (4, false)] := by
    rw [← isFixedPair_iff_mem, h]
    exact Bool.false_ne_true
  simp only [List.mem_cons, Prod.mk.injEq, List.not_mem_nil, or_false, not_or] at hfixed
  obtain ⟨h0A, h0B, h2A, h2B, h4A⟩ := hfixed
  rw [State.afterApply, classify, if_neg h0A, if_neg h0B, if_neg h2A, if_neg h2B, if_neg h4A, openPair]
  split <;> rfl

/-- An APPLY runs the case of its pair after the header commit (R100). -/
theorem exec_apply_of_pair {g : RdsGroup} {type : BitVec 4} {version : Bit} (htype : typeOf g.b = type)
    (hversion : versionOf g.b = version) (s : State) :
    exec (.apply g) s =
      .next (decodeCase (classify s.cfg type version) (payloadOf g) (s.header (payloadOf g))) := by
  rw [← htype, ← hversion]
  rfl

/-- The effect of a group is that of its row. -/
theorem apply_effect (g : RdsGroup) : ∃ f, RowEffect (.apply g) f ∧ ∀ s, exec (.apply g) s = .next (f s) := by
  have hrow : rowInstr (.apply g) = groupRow (typeOf g.b) (versionOf g.b) (payloadOf g) := rfl
  cases hfixed : isFixedPair (typeOf g.b) (versionOf g.b) with
  | false =>
    obtain ⟨r, hr, hpair⟩ := List.mem_map.mp (mem_openRows_of_not_isFixedPair _ _ hfixed)
    obtain ⟨htype, hversion⟩ := Prod.mk.inj hpair
    refine ⟨_, .openRow (x := payloadOf g) hr ?_, fun s => ?_⟩
    · rw [hrow, ← htype, ← hversion, groupRow_of_mem_openRows _ r hr]
    · rw [exec_apply, afterApply_openPair s g hfixed, htype, hversion]
  | true =>
    have hmem := (isFixedPair_iff_mem _ _).mp hfixed
    simp only [List.mem_cons, Prod.mk.injEq, List.not_mem_nil, or_false] at hmem
    obtain h | h | h | h | h := hmem <;> obtain ⟨htype, hversion⟩ := h <;> rw [htype, hversion] at hrow
    · exact ⟨_, .ps (mk := .grp0A) (by simp [psRows]) hrow, exec_apply_of_pair htype hversion⟩
    · exact ⟨_, .ps (mk := .grp0B) (by simp [psRows]) hrow, exec_apply_of_pair htype hversion⟩
    · exact ⟨_, .rt (r := (.grp2A, rtFields2A)) (by simp [rtRows]) hrow, exec_apply_of_pair htype hversion⟩
    · exact ⟨_, .rt (r := (.grp2B, rtFields2B)) (by simp [rtRows]) hrow, exec_apply_of_pair htype hversion⟩
    · exact ⟨_, .ct hrow, exec_apply_of_pair htype hversion⟩

/-- Every instruction has the effect of its row on every state. -/
theorem exec_effect (i : Instr) : ∃ f, RowEffect i f ∧ ∀ s, exec i s = .next (f s) := by
  cases i with
  | apply g => exact apply_effect g
  | reset d => exact ⟨_, .reset rfl, fun _ => rfl⟩
  | idle w => exact ⟨_, .idle rfl, fun _ => rfl⟩
  | read addr => exact ⟨_, .read rfl, fun _ => rfl⟩
  | grp0A x => exact ⟨_, .ps (mk := .grp0A) (by simp [psRows]) rfl, fun _ => rfl⟩
  | grp0B x => exact ⟨_, .ps (mk := .grp0B) (by simp [psRows]) rfl, fun _ => rfl⟩
  | grp2A x => exact ⟨_, .rt (r := (.grp2A, rtFields2A)) (by simp [rtRows]) rfl, fun _ => rfl⟩
  | grp2B x => exact ⟨_, .rt (r := (.grp2B, rtFields2B)) (by simp [rtRows]) rfl, fun _ => rfl⟩
  | grp4A x => exact ⟨_, .ct rfl, fun _ => rfl⟩
  | _ x => exact ⟨openPair _ _ x, .openRow (r := (_, _, _)) (by simp [openRows]) rfl, fun _ => rfl⟩

/-- What an instruction leaves is its row's effect on the state it started from. -/
theorem effect_of_exec {i : Instr} {s t : State} (h : exec i s = .next t) : ∃ f, RowEffect i f ∧ t = f s := by
  obtain ⟨f, hf, hexec⟩ := exec_effect i
  exact ⟨f, hf, Host.Outcome.next.inj ((h.symm.trans (hexec s)))⟩

end Sys2Proof.Machine
end

section
/-! PROOF. The frame of each decoder: the registers it leaves alone, in one equation for the committed registers and one
for the scratch, and which registers it may change and when. -/

namespace Sys2Proof.Machine

/-! ### The interface -/

theorem SameInterface.inFlight {s t : State} (h : SameInterface s t) : t.inFlight = s.inFlight := h.1

theorem SameInterface.cfg {s t : State} (h : SameInterface s t) : t.cfg = s.cfg := h.2.2.2

/-! ### The header commit and the type-0 rows -/

theorem header_committed (x : Payload) (s : State) :
    (s.header x).committed = { s.committed with header := { pi := x.pi, tp := x.tp, pty := x.pty } } := rfl

theorem header_scratch (x : Payload) (s : State) : (s.header x).scratch = s.scratch := rfl

theorem header_sameInterface (x : Payload) (s : State) : SameInterface s (s.header x) := ⟨rfl, rfl, rfl, rfl⟩

/-- A type-0 row commits its flags, and its name at address 3 alone (R111, R113). -/
theorem psDecode_committed (x : Payload) (s : State) :
    (psDecode x s).committed = { s.committed with
      flags := { ta := (psFields x).ta, ms := (psFields x).ms }
      name := if (psFields x).addr = 3 then
          { ps := (psDecode x s).scratch.ps, di := (psDecode x s).scratch.di, valid := true }
        else s.committed.name } := by
  rw [psDecode_eq, commitAtThree_eq]
  split <;> rfl

/-- A type-0 row leaves the radiotext scratch alone (R112). -/
theorem psDecode_scratch (x : Payload) (s : State) :
    (psDecode x s).scratch = { s.scratch with
      ps := (psDecode x s).scratch.ps, di := (psDecode x s).scratch.di } := by
  rw [psDecode_eq, commitAtThree_eq]
  split <;> rfl

theorem psDecode_sameInterface (x : Payload) (s : State) : SameInterface s (psDecode x s) :=
  (State.withInterface_eq_self_iff _ s).mp (psDecode_withInterface x s s).symm

/-! ### The radiotext rows -/

/-- A segment completes the message: it holds a carriage return or runs to the last byte of the buffer (R123, R124). -/
def RtFields.completes (f : RtFields) : Prop := (0x0D : Byte) ∈ f.seg ∨ f.off + f.seg.length = 64

theorem not_completes {f : RtFields} (hreturn : (0x0D : Byte) ∉ f.seg) (hlength : f.off + f.seg.length < 64) :
    ¬ f.completes :=
  fun h => h.elim hreturn (Nat.ne_of_lt hlength)

theorem rtRows_inside (x : Payload) : ∀ r ∈ rtRows, (r.2 x).off + (r.2 x).seg.length ≤ 64 := by
  simp only [rtRows, List.forall_mem_cons, List.not_mem_nil, false_imp_iff, implies_true, and_true]
  exact ⟨rtFields2A_inside x, (rtFields2B_inside x).trans (by decide)⟩

theorem scanSegment_completes {f : RtFields} {buf : Vector Byte 64} (hinside : f.off + f.seg.length ≤ 64)
    (hdone : (scanSegment f.seg f.off buf).2 = true) : f.completes :=
  ((scanSegment_done _ _ _ hinside).mp hdone).imp_right And.right

/-- A type-2 row commits nothing but the radiotext (R125). -/
theorem rtDecode_committed (f : RtFields) (s : State) :
    (rtDecode f s).committed = { s.committed with text := (rtDecode f s).committed.text } := by
  obtain ⟨-, h⟩ | ⟨-, h⟩ := rtDecode_cases f s <;> rw [h] <;> rfl

/-- A type-2 row leaves the name's scratch alone (R123). -/
theorem rtDecode_scratch (f : RtFields) (s : State) :
    (rtDecode f s).scratch = { s.scratch with rt := (rtDecode f s).scratch.rt, rtFlag := f.flip } := by
  obtain ⟨-, h⟩ | ⟨-, h⟩ := rtDecode_cases f s <;> rw [h] <;> rfl

theorem rtDecode_sameInterface (f : RtFields) (s : State) : SameInterface s (rtDecode f s) :=
  (State.withInterface_eq_self_iff _ s).mp (rtDecode_withInterface f s s).symm

/-- A segment that does not complete the message commits nothing (R125). -/
theorem rtDecode_committed_of_not_completes {f : RtFields} (hinside : f.off + f.seg.length ≤ 64)
    (h : ¬ f.completes) (s : State) : (rtDecode f s).committed = s.committed := by
  obtain ⟨hdone, -⟩ | ⟨-, heq⟩ := rtDecode_cases f s
  · exact absurd (scanSegment_completes hinside hdone) h
  · rw [heq, State.writeRtScratch_committed]

/-- A type-2 row leaves the variant that its flip flag does not name alone (R125). -/
theorem rtDecode_bank_not (f : RtFields) (s : State) :
    (rtDecode f s).committed.text.bank (!f.flip) = s.committed.text.bank (!f.flip) := by
  obtain ⟨-, h⟩ | ⟨-, h⟩ := rtDecode_cases f s <;> simp [h]

/-- A radiotext commit sets the valid bit of its variant and leaves the other (R125). -/
theorem rtDecode_validOf (f : RtFields) (s : State) (v : Bit) (h : s.committed.text.validOf v = true) :
    (rtDecode f s).committed.text.validOf v = true := by
  obtain ⟨-, heq⟩ | ⟨-, heq⟩ := rtDecode_cases f s <;> rw [heq]
  · obtain hv | hv : v = f.flip ∨ v = !f.flip := by cases v <;> cases f.flip <;> simp
    · rw [hv, State.commitText_validOf]
    · rw [hv, State.commitText_validOf_not, State.writeRtScratch_committed, ← hv, h]
  · exact h

/-! ### The clock-time row -/

/-- A 4A row commits nothing but an accepted sample (R136, R137). -/
theorem ctDecode_committed (x : Payload) (s : State) :
    (ctDecode x s).committed = { s.committed with
      clock := if accepts (ctFields x) then clockOf (ctFields x) else s.committed.clock } := by
  obtain ⟨haccepts, h⟩ | ⟨haccepts, h⟩ := ctDecode_cases x s <;> rw [h, haccepts] <;> rfl

theorem ctDecode_scratch (x : Payload) (s : State) : (ctDecode x s).scratch = s.scratch := by
  obtain ⟨-, h⟩ | ⟨-, h⟩ := ctDecode_cases x s <;> rw [h]
  exact State.commitClock_scratch s _

theorem ctDecode_sameInterface (x : Payload) (s : State) : SameInterface s (ctDecode x s) :=
  (State.withInterface_eq_self_iff _ s).mp (ctDecode_withInterface x s s).symm

theorem accepts_iff (f : CtFields) : accepts f = true ↔ f.hour.toNat < 24 ∧ f.minute.toNat < 60 := by
  simp [accepts]

/-! ### The open rows: RT+ or the header alone -/

/-- The span a tag names lies within 64 bytes (R152). -/
def Tag.InBounds (t : Tag) : Prop := t.start.toNat + t.len.toNat ≤ 64

theorem inBounds_iff (t : Tag) : inBounds t = true ↔ t.InBounds := by
  simp [inBounds, Tag.InBounds]

/-- A tag's content type decides between Title, Artist and neither (R154). -/
theorem commitDerived_target (t : Tag) (s : State) :
    (∃ v, commitDerived t s = s.commitTitle v) ∨ (∃ v, commitDerived t s = s.commitArtist v) ∨
      commitDerived t s = s :=
  (commitDerived_cases t s).imp (fun h => ⟨_, h.2⟩) (Or.imp (fun h => ⟨_, h.2.2⟩) (·.2.2))

/-- A tag's Title or Artist step leaves every other register alone, the tags too. -/
theorem commitDerived_committed (t : Tag) (s : State) :
    (commitDerived t s).committed = { s.committed with
      title := (commitDerived t s).committed.title, artist := (commitDerived t s).committed.artist } := by
  obtain ⟨v, h⟩ | ⟨v, h⟩ | h := commitDerived_target t s <;> rw [h] <;> rfl

theorem commitDerived_scratch (t : Tag) (s : State) : (commitDerived t s).scratch = s.scratch := by
  obtain ⟨v, h⟩ | ⟨v, h⟩ | h := commitDerived_target t s <;> rw [h] <;> rfl

/-- Tag 0 is written where it is in bounds, and tag 1 is left (R152, R154). -/
theorem processTag0_committed (t : Tag) (s : State) :
    (processTag0 t s).committed = { s.committed with
      tag0 := if inBounds t then t else s.committed.tag0
      title := (processTag0 t s).committed.title, artist := (processTag0 t s).committed.artist } := by
  unfold processTag0
  split
  · rw [commitDerived_committed]; rfl
  · rfl

/-- Tag 1 is written where it is in bounds, and tag 0 is left (R152, R154). -/
theorem processTag1_committed (t : Tag) (s : State) :
    (processTag1 t s).committed = { s.committed with
      tag1 := if inBounds t then t else s.committed.tag1
      title := (processTag1 t s).committed.title, artist := (processTag1 t s).committed.artist } := by
  unfold processTag1
  split
  · rw [commitDerived_committed]; rfl
  · rfl

theorem processTag0_scratch (t : Tag) (s : State) : (processTag0 t s).scratch = s.scratch := by
  unfold processTag0
  split
  · rw [commitDerived_scratch, State.commitTag0_scratch]
  · rfl

theorem processTag1_scratch (t : Tag) (s : State) : (processTag1 t s).scratch = s.scratch := by
  unfold processTag1
  split
  · rw [commitDerived_scratch, State.commitTag1_scratch]
  · rfl

/-- A group whose running flag is 0 does nothing after its header, and a running one processes tag 0 and then tag 1
(R150, R154). -/
theorem rtpDecode_cases (x : Payload) (s : State) :
    (x.gs.getLsbD 4 = true ∧
      rtpDecode x s = processTag1 (rtpFields x).tag1 (processTag0 (rtpFields x).tag0 s)) ∨
    (x.gs.getLsbD 4 = false ∧ rtpDecode x s = s) := by
  by_cases h : x.gs.getLsbD 4 = true
  · exact .inl ⟨h, if_pos h⟩
  · exact .inr ⟨Bool.eq_false_of_not_eq_true h, if_neg h⟩

/-- RT+ commits nothing but the tags, Title and Artist (R154, R157). -/
theorem rtpDecode_committed (x : Payload) (s : State) :
    (rtpDecode x s).committed = { s.committed with
      tag0 := (rtpDecode x s).committed.tag0, tag1 := (rtpDecode x s).committed.tag1
      title := (rtpDecode x s).committed.title, artist := (rtpDecode x s).committed.artist } := by
  obtain ⟨-, h⟩ | ⟨-, h⟩ := rtpDecode_cases x s <;> rw [h]
  rw [processTag1_committed, processTag0_committed]

theorem rtpDecode_scratch (x : Payload) (s : State) : (rtpDecode x s).scratch = s.scratch := by
  obtain ⟨-, h⟩ | ⟨-, h⟩ := rtpDecode_cases x s <;> rw [h]
  rw [processTag1_scratch, processTag0_scratch]

theorem rtpDecode_sameInterface (x : Payload) (s : State) : SameInterface s (rtpDecode x s) :=
  (State.withInterface_eq_self_iff _ s).mp (rtpDecode_withInterface rfl x).symm

/-- An open row commits its header and nothing but the tags, Title and Artist besides (R103, R157). -/
theorem openPair_committed (type : BitVec 4) (version : Bit) (x : Payload) (s : State) :
    (openPair type version x s).committed = { s.committed with
      header := { pi := x.pi, tp := x.tp, pty := x.pty }
      tag0 := (openPair type version x s).committed.tag0, tag1 := (openPair type version x s).committed.tag1
      title := (openPair type version x s).committed.title
      artist := (openPair type version x s).committed.artist } := by
  obtain ⟨-, h⟩ | ⟨-, h⟩ := openPair_cases type version x s <;> rw [h]
  · rw [rtpDecode_committed]; rfl
  · rfl

theorem openPair_scratch (type : BitVec 4) (version : Bit) (x : Payload) (s : State) :
    (openPair type version x s).scratch = s.scratch := by
  obtain ⟨-, h⟩ | ⟨-, h⟩ := openPair_cases type version x s <;> rw [h]
  · rw [rtpDecode_scratch, header_scratch]
  · rfl

theorem openPair_sameInterface (type : BitVec 4) (version : Bit) (x : Payload) (s : State) :
    SameInterface s (openPair type version x s) := by
  obtain ⟨-, h⟩ | ⟨-, h⟩ := openPair_cases type version x s <;> rw [h]
  · exact rtpDecode_sameInterface x (s.header x)
  · exact header_sameInterface x s

/-- An open row that is not a running RT+ row commits its header alone (R103, R150). -/
theorem openPair_of_not_running {type : BitVec 4} {version : Bit} {x : Payload} {s : State}
    (h : ¬ (s.cfg.isRtp type version = true ∧ x.gs.getLsbD 4 = true)) : openPair type version x s = s.header x := by
  obtain ⟨hrtp, heq⟩ | ⟨-, heq⟩ := openPair_cases type version x s <;> rw [heq]
  obtain ⟨hrunning, -⟩ | ⟨-, hsame⟩ := rtpDecode_cases x (s.header x)
  · exact absurd ⟨hrtp, hrunning⟩ h
  · exact hsame

end Sys2Proof.Machine
end

section
/-! PROOF. What every step keeps: a property that each part of a step keeps, `exec` first, is kept by the step. -/

namespace Sys2Proof.Machine

/-- A property of the state that every part of a step keeps. -/
structure KeptByParts (P : State → Prop) : Prop where
  exec : ∀ {i s t}, P s → exec i s = .next t → P t
  accept : ∀ {s} (g n), P s → P (s.accept g (n + 1))
  land : ∀ {s}, P s → P s.land
  dropInput : ∀ {s}, P s → P s.dropInput

section
variable {P : State → Prop} (hP : KeptByParts P) {s t : State}
include hP

theorem KeptByParts.clearAll (h : P s) : P s.clearAll := hP.exec (i := .reset none) h rfl

theorem KeptByParts.advance (h : P s) (hadvance : advance s = .next t) : P t := by
  cases hflight : s.inFlight with
  | none =>
    rw [advance_of_none hflight] at hadvance
    exact Host.Outcome.next.inj hadvance ▸ h
  | some f =>
    rw [advance_of_some hflight] at hadvance
    split at hadvance
    · exact hP.exec (hP.land h) hadvance
    · obtain ⟨n, hn⟩ : ∃ n, f.left - 1 = n + 1 := ⟨f.left - 2, by omega⟩
      rw [hn] at hadvance
      exact Host.Outcome.next.inj hadvance ▸ hP.accept _ n h

theorem KeptByParts.runThenAdvance {i : Instr} (h : P s) (hrun : runThenAdvance i s = .next t) : P t := by
  obtain ⟨u, hu⟩ := exec_completes i s
  rw [runThenAdvance_of_exec hu] at hrun
  exact hP.advance (hP.exec h hu) hrun

theorem KeptByParts.clockEdge {e : Edge} (h : P s) (hedge : clockEdge e s = .next t) : P t := by
  unfold Sys2Proof.Machine.clockEdge at hedge
  split at hedge
  · split at hedge
    · exact Host.Outcome.next.inj hedge ▸ hP.accept _ _ h
    · exact hP.runThenAdvance h hedge
  · exact Host.Outcome.next.inj hedge ▸ hP.clearAll h

theorem KeptByParts.step (h : P s) (hstep : step s = .next t) : P t := by
  cases hwf : s.cfg.wf with
  | false => rw [step_of_not_wf hwf] at hstep; contradiction
  | true =>
    rw [step_of_wf hwf] at hstep
    unfold runInput at hstep
    split at hstep
    · exact hP.clockEdge h hstep
    · exact hP.clockEdge (hP.dropInput h) hstep
    · exact hP.exec (hP.dropInput h) hstep

end

/-! ### The interface -/

/-- A row keeps the interface, but for RESET, which cancels an APPLY in progress, and READ, which drives `rd_addr`
(R42, R44). -/
theorem RowEffect.interface {i : Instr} {f : State → State} (hf : RowEffect i f) (s : State) :
    SameInterface s (f s) ∨ f s = s.clearAll ∨ ∃ addr, f s = s.setRdAddr addr := by
  cases hf with
  | ps hmk hrow => exact .inl (psDecode_sameInterface _ _)
  | rt hr hrow => exact .inl (rtDecode_sameInterface _ _)
  | ct hrow => exact .inl (ctDecode_sameInterface _ _)
  | openRow hr hrow => exact .inl (openPair_sameInterface _ _ _ _)
  | reset hreset => exact .inr (.inl rfl)
  | idle hidle => exact .inl ⟨rfl, rfl, rfl, rfl⟩
  | read hread => exact .inr (.inr ⟨_, rfl⟩)

/-- No instruction changes the configuration (R22). -/
theorem exec_cfg {i : Instr} {s t : State} (h : exec i s = .next t) : t.cfg = s.cfg := by
  obtain ⟨f, hf, rfl⟩ := effect_of_exec h
  obtain hsame | hclear | ⟨addr, hread⟩ := hf.interface s
  · exact hsame.cfg
  · rw [hclear, State.clearAll_cfg]
  · rw [hread, State.setRdAddr_cfg]

/-- An instruction leaves an APPLY in progress alone, or cancels it (R42). -/
theorem exec_inFlight {i : Instr} {s t : State} (h : exec i s = .next t) :
    t.inFlight = s.inFlight ∨ t.inFlight = none := by
  obtain ⟨f, hf, rfl⟩ := effect_of_exec h
  obtain hsame | hclear | ⟨addr, hread⟩ := hf.interface s
  · exact .inl hsame.inFlight
  · exact .inr (by rw [hclear, State.clearAll_inFlight])
  · exact .inl (by rw [hread, State.setRdAddr_inFlight])

/-- Every part of a step keeps the configuration. -/
theorem keptByParts_cfg (k : Config) : KeptByParts fun s => s.cfg = k where
  exec h hexec := (exec_cfg hexec).trans h
  accept _ _ h := h
  land h := h
  dropInput h := h

/-- Settles O57: no part of a step writes `cfg`. -/
theorem noStepChangesTheConfiguration : Obligations.NoStepChangesTheConfiguration := by
  unfold Obligations.NoStepChangesTheConfiguration
  exact fun s t hstep => (keptByParts_cfg s.cfg).step rfl hstep

/-! ### The invariant (R49) -/

/-- Only an accepted sample writes the clock, and RESET makes it 0 (R47, R49 (a)). -/
theorem exec_clock {i : Instr} {s t : State} (h : exec i s = .next t) :
    t.committed.clock = s.committed.clock ∨
      ((∃ d, i = .reset d) ∧ t.committed.clock = Committed.zero.clock) ∨
      ∃ x, rowInstr i = .grp4A x ∧ accepts (ctFields x) = true ∧ t.committed.clock = clockOf (ctFields x) := by
  obtain ⟨f, hf, rfl⟩ := effect_of_exec h
  cases hf with
  | ps hmk hrow => exact .inl (by rw [psDecode_committed]; rfl)
  | rt hr hrow => exact .inl (by rw [rtDecode_committed]; rfl)
  | @ct x hrow =>
    rw [ctDecode_committed]
    cases haccepts : accepts (ctFields x) with
    | false => exact .inl rfl
    | true => exact .inr (.inr ⟨x, hrow, haccepts, rfl⟩)
  | openRow hr hrow => exact .inl (by rw [openPair_committed])
  | reset hreset => exact .inr (.inl ⟨⟨_, hreset⟩, rfl⟩)
  | idle hidle => exact .inl rfl
  | read hread => exact .inl rfl

/-- A property of the clock registers holds after an instruction where it holds before it, of zeros and of every
accepted sample. -/
theorem exec_keeps_clock {P : ClockTime → Prop} (hzero : P Committed.zero.clock)
    (hsample : ∀ f, accepts f = true → P (clockOf f)) {i : Instr} {s t : State} (h : P s.committed.clock)
    (hexec : exec i s = .next t) : P t.committed.clock := by
  obtain hsame | ⟨-, hreset⟩ | ⟨x, -, haccepts, hclock⟩ := exec_clock hexec
  · rwa [hsame]
  · rwa [hreset]
  · rw [hclock]
    exact hsample _ haccepts

theorem exec_keeps_clockInRange {i : Instr} {s t : State} (h : ClockInRange s.committed)
    (hexec : exec i s = .next t) : ClockInRange t.committed :=
  exec_keeps_clock (P := fun c => c.valid = true → c.hour.toNat < 24 ∧ c.minute.toNat < 60)
    (fun hvalid => nomatch hvalid) (fun _ haccepts _ => (accepts_iff _).mp haccepts) h hexec

/-- A tag is replaced by one in bounds, or not at all (R152). -/
theorem inBounds_ite {t u : Tag} (h : u.InBounds) : (if inBounds t then t else u).InBounds := by
  split
  · exact (inBounds_iff t).mp ‹_›
  · exact h

theorem openPair_tagsInBounds (type : BitVec 4) (version : Bit) (x : Payload) {s : State}
    (h : TagsInBounds s.committed) : TagsInBounds (openPair type version x s).committed := by
  obtain ⟨h0, h1⟩ := h
  obtain ⟨-, heq⟩ | ⟨-, heq⟩ := openPair_cases type version x s <;> rw [heq]
  · obtain ⟨-, heq⟩ | ⟨-, heq⟩ := rtpDecode_cases x (s.header x) <;> rw [heq]
    · rw [processTag1_committed, processTag0_committed]
      exact ⟨inBounds_ite h0, inBounds_ite h1⟩
    · exact ⟨h0, h1⟩
  · exact ⟨h0, h1⟩

theorem exec_keeps_tagsInBounds {i : Instr} {s t : State} (h : TagsInBounds s.committed)
    (hexec : exec i s = .next t) : TagsInBounds t.committed := by
  obtain ⟨f, hf, rfl⟩ := effect_of_exec hexec
  cases hf with
  | ps hmk hrow => rw [psDecode_committed]; exact h
  | rt hr hrow => rw [rtDecode_committed]; exact h
  | ct hrow => rw [ctDecode_committed]; exact h
  | openRow hr hrow => exact openPair_tagsInBounds _ _ _ h
  | reset hreset => exact ⟨Nat.zero_le _, Nat.zero_le _⟩
  | idle hidle => exact h
  | read hread => exact h

theorem exec_keeps_flightCounted {i : Instr} {s t : State} (h : FlightCounted s) (hexec : exec i s = .next t) :
    FlightCounted t := by
  obtain hsame | hnone := exec_inFlight hexec
  · rwa [FlightCounted, hsame]
  · rw [FlightCounted, hnone]
    exact fun _ hsome => nomatch hsome

theorem keptByParts_inv : KeptByParts State.Inv where
  exec := by
    rintro i s t ⟨hwf, hclock, htags, hflight⟩ hexec
    exact ⟨(exec_cfg hexec).symm ▸ hwf, exec_keeps_clockInRange hclock hexec, exec_keeps_tagsInBounds htags hexec,
      exec_keeps_flightCounted hflight hexec⟩
  accept := by
    rintro s g n ⟨hwf, hclock, htags, -⟩
    refine ⟨hwf, hclock, htags, fun f hf => ?_⟩
    cases hf
    exact Nat.le_add_left 1 n
  land := by
    rintro s ⟨hwf, hclock, htags, -⟩
    exact ⟨hwf, hclock, htags, fun _ hf => nomatch hf⟩
  dropInput h := h

/-- Settles O55: each part of a step keeps each of the four conjuncts. -/
theorem everyStepKeepsTheInvariant : Obligations.EveryStepKeepsTheInvariant := by
  unfold Obligations.EveryStepKeepsTheInvariant
  exact fun s t h hstep => keptByParts_inv.step h hstep

end Sys2Proof.Machine
end

section
/-! PROOF. The date of a day count is a date of the calendar (R142, R144). R138's formulas are taken in two parts, as
they stand: a day number of the Julian calendar, which leaves a gap at every century that is no leap year, and the year
and the day of the year in it, a year that begins with March. -/

namespace Sys2Proof.Machine

/-- `B` of R138: the day number, in which a century year's missing 29 February is a number that no day has. -/
def dayNumber (mjd : Nat) : Nat :=
  let alpha := (100 * (mjd + 2400001) - 186721625) / 3652425
  mjd + 2400001 + 1 + alpha - alpha / 4 + 1524

/-- `C` of R138: the year of a day number, from March on, counted from 4716 years before year 0. -/
def yearIndex (b : Nat) : Nat := (100 * b - 12210) / 36525

/-- `B - D` of R138: the day of that year; 1 March is day 123. -/
def yearDay (b : Nat) : Nat := b - 36525 * yearIndex b / 100

/-- The date that R138 gives the day `r` of the year `c`. -/
def dateOf (c r : Nat) : CalendarDate :=
  let e := r * 10000 / 306001
  let month := if e > 13 then e - 13 else e - 1
  { year := (c - 4715) - (if month > 2 then 1 else 0), month := month, day := r - 306001 * e / 10000 }

theorem mjdToYmd_eq (mjd : Nat) : mjdToYmd mjd = dateOf (yearIndex (dayNumber mjd)) (yearDay (dayNumber mjd)) := rfl

/-- R138's century correction over the 17-bit day counts: it grows at 1 March of 1900, 2100 and 2200, not of 2000. -/
theorem dayNumber_cases {mjd : Nat} (h : mjd < 131072) :
    (mjd < 15079 ∧ dayNumber mjd = mjd + 2401537) ∨ (15079 ≤ mjd ∧ mjd < 88128 ∧ dayNumber mjd = mjd + 2401538) ∨
    (88128 ≤ mjd ∧ mjd < 124652 ∧ dayNumber mjd = mjd + 2401539) ∨
    (124652 ≤ mjd ∧ dayNumber mjd = mjd + 2401540) := by
  simp only [dayNumber]
  omega

/-- The days of a year are 123 to 487, and 488 in every fourth year (R138). -/
theorem yearDay_bounds {b : Nat} (h : 123 ≤ b) : 123 ≤ yearDay b ∧ yearDay b ≤ 488 := by
  unfold yearDay yearIndex
  omega

theorem yearIndex_mod_of_yearDay {b : Nat} (h : yearDay b = 488) : yearIndex b % 4 = 3 := by
  have hyear : yearIndex b = (100 * b - 12210) / 36525 := rfl
  have hday : b - 36525 * yearIndex b / 100 = 488 := h
  generalize yearIndex b = c at *
  omega

/-! ### The calendar (R142) -/

theorem CalendarDate.wf_iff (d : CalendarDate) :
    d.wf = true ↔ 1 ≤ d.month ∧ d.month ≤ 12 ∧ 1 ≤ d.day ∧ d.day ≤ daysInMonth d.year d.month := by
  simp [CalendarDate.wf, and_assoc]

theorem isLeapYear_iff (y : Nat) : isLeapYear y = true ↔ y % 4 = 0 ∧ (y % 100 ≠ 0 ∨ y % 400 = 0) := by
  simp [isLeapYear]

/-- The month lengths of R138, 28 days in February. -/
theorem dateOf_wf {r : Nat} (c : Nat) (hlow : 123 ≤ r) (hhigh : r ≤ 487) : (dateOf c r).wf = true := by
  obtain ⟨e, he⟩ : ∃ e, r * 10000 / 306001 = e := ⟨_, rfl⟩
  have h4 : 4 ≤ e := by omega
  have h15 : e ≤ 15 := by omega
  have hfebruary : 28 ≤ if isLeapYear (c - 4715) = true then 29 else 28 := by split <;> decide
  simp only [dateOf, he]
  interval_cases e
  all_goals
    simp [CalendarDate.wf_iff, daysInMonth]
    omega

/-- Day 488 is 29 February. -/
theorem dateOf_wf_leapDay {c : Nat} (h : isLeapYear (c - 4715) = true) : (dateOf c 488).wf = true := by
  simp [dateOf, CalendarDate.wf_iff, daysInMonth, h]

/-- The years that have a day 488 are leap years: the day numbers leave out that of 1900, 2100 and 2200. -/
theorem isLeapYear_of_yearDay {mjd : Nat} (h : mjd < 131072) (hday : yearDay (dayNumber mjd) = 488) :
    isLeapYear (yearIndex (dayNumber mjd) - 4715) = true := by
  have hmod := yearIndex_mod_of_yearDay hday
  have hcases := dayNumber_cases h
  unfold yearDay yearIndex at *
  rw [isLeapYear_iff]
  omega

theorem mjdToYmd_wf {mjd : Nat} (h : mjd < 131072) : (mjdToYmd mjd).wf = true := by
  have hcases := dayNumber_cases h
  obtain ⟨hlow, hhigh⟩ := yearDay_bounds (b := dayNumber mjd) (by omega)
  rw [mjdToYmd_eq]
  obtain hday | hday : yearDay (dayNumber mjd) ≤ 487 ∨ yearDay (dayNumber mjd) = 488 := by omega
  · exact dateOf_wf _ hlow hday
  · rw [hday]
    exact dateOf_wf_leapDay (isLeapYear_of_yearDay h hday)

/-! ### The clock registers hold the date whole (R32) -/

theorem mjdToYmd_year_lt {mjd : Nat} (h : mjd < 131072) : (mjdToYmd mjd).year < 65536 := by
  have hcases := dayNumber_cases h
  have hindex : yearIndex (dayNumber mjd) ≤ 70000 := by unfold yearIndex; omega
  have hyear : (mjdToYmd mjd).year ≤ yearIndex (dayNumber mjd) - 4715 := Nat.sub_le _ _
  omega

theorem daysInMonth_le (y m : Nat) : daysInMonth y m ≤ 31 := by
  unfold daysInMonth
  split_ifs <;> decide

/-- No register truncates the date of a sample. -/
theorem clockOf_date (f : CtFields) : (clockOf f).date = mjdToYmd f.mjd.toNat := by
  have hmjd : f.mjd.toNat < 131072 := f.mjd.isLt
  obtain ⟨-, hmonth12, -, hdays⟩ := (CalendarDate.wf_iff _).mp (mjdToYmd_wf hmjd)
  have hday31 := hdays.trans (daysInMonth_le _ _)
  have hyear : (mjdToYmd f.mjd.toNat).year < 2 ^ 16 := mjdToYmd_year_lt hmjd
  have hmonth : (mjdToYmd f.mjd.toNat).month < 2 ^ 4 := by omega
  have hday : (mjdToYmd f.mjd.toNat).day < 2 ^ 5 := by omega
  simp only [clockOf, ClockTime.date, BitVec.toNat_ofNat]
  rw [Nat.mod_eq_of_lt hyear, Nat.mod_eq_of_lt hmonth, Nat.mod_eq_of_lt hday]

theorem keptByParts_clockDateValid : KeptByParts fun s => ClockDateValid s.committed where
  exec h hexec :=
    exec_keeps_clock (P := fun c => c.valid = true → c.date.wf = true) (fun hvalid => nomatch hvalid)
      (fun f _ _ => by rw [clockOf_date]; exact mjdToYmd_wf f.mjd.isLt) h hexec
  accept _ _ h := h
  land h := h
  dropInput h := h

/-- Settles O56: the one write of the clock registers is a sample, whose date is a date of the calendar. -/
theorem everyStepKeepsTheDateValid : Obligations.EveryStepKeepsTheDateValid := by
  unfold Obligations.EveryStepKeepsTheDateValid
  exact fun s t h hstep => keptByParts_clockDateValid.step h hstep

end Sys2Proof.Machine
end

section
/-! PROOF. The reset values (R47): the states with every register 0, and what a host reads of them. -/

namespace Sys2Proof.Machine

/-- The registers are all 0 in one way only. -/
theorem committedZero_iff (m : Committed) : CommittedZero m ↔ m = Committed.zero := by
  constructor
  · rcases m with ⟨⟨pi, tp, pty⟩, ⟨ta, ms⟩, ⟨ps, di, valid⟩, ⟨rt0, rt1, valid0, valid1, flag⟩,
      ⟨ctValid, year, month, day, hour, minute, offset⟩, ⟨c0, s0, l0⟩, ⟨c1, s1, l1⟩, title, artist⟩
    rintro ⟨rfl, rfl, rfl, rfl, rfl, rfl, rfl, rfl, rfl, rfl, rfl, rfl, rfl, rfl, rfl, rfl, rfl, rfl, rfl, rfl, rfl,
      rfl, rfl, hps, hrt0, hrt1, htitle, hartist⟩
    have hzero : ∀ {n : Nat} {v : Vector Byte n}, (∀ i, byteAt v i = 0) → v = Vector.replicate n 0 :=
      fun h => vector_ext_byteAt fun i _ => by rw [h i, byteAt_zero]
    rw [hzero (v := ps) hps, hzero (v := rt0) hrt0, hzero (v := rt1) hrt1, hzero (v := title) htitle,
      hzero (v := artist) hartist]
    rfl
  · rintro rfl
    simp only [CommittedZero, Committed.zero, byteAt_zero, implies_true, and_self]

theorem committedZero_zero : CommittedZero Committed.zero := (committedZero_iff _).mpr rfl

theorem scratchZero_zero : ScratchZero Scratch.zero := by
  simp only [ScratchZero, Scratch.zero, byteAt_zero, implies_true, and_self]

theorem clockEdge_of_rstN {e : Edge} (h : e.rstN = false) (s : State) : clockEdge e s = .next s.clearAll := by
  simp [clockEdge, h]

/-- Settles O1: power-up and RESET both leave `Committed.zero` and `Scratch.zero`. -/
theorem resetStateIsAllZero : Obligations.ResetStateIsAllZero := by
  unfold Obligations.ResetStateIsAllZero
  refine ⟨⟨committedZero_zero, scratchZero_zero, rfl⟩, fun e s h => ?_, fun d s => ?_⟩
  · exact ⟨s.clearAll, clockEdge_of_rstN h s, committedZero_zero, scratchZero_zero⟩
  · exact ⟨s.clearAll, rfl, committedZero_zero, scratchZero_zero⟩

/-- Settles O54: at reset no sample is valid, the tags are 0 and nothing is in progress. -/
theorem invariantHoldsAtReset : Obligations.InvariantHoldsAtReset := by
  unfold Obligations.InvariantHoldsAtReset
  have hinvalid : State.reset.committed.clock.valid ≠ true := Bool.false_ne_true
  refine ⟨⟨by decide, fun hvalid => absurd hvalid hinvalid, ⟨Nat.zero_le _, Nat.zero_le _⟩, ?_⟩,
    fun hvalid => absurd hvalid hinvalid⟩
  exact fun f hf => nomatch hf

/-! ### Reading zeros (R48) -/

theorem window_zero (a : BitVec 9) : window Committed.zero a = 0x00 := by
  have hflags : flagsByte Committed.zero = 0x00 := rfl
  simp only [window, hflags]
  simp only [Committed.zero, byteAt_zero]
  simp

/-- Where the window reads 0x00, so does a multi-byte read, and its string is empty (R15). -/
theorem str_memRead_zero (base n : Nat) : str (memRead Committed.zero base n) = [] := by
  cases n with
  | zero => rfl
  | succ n => simp [str, memRead, window_zero, List.range_succ_eq_map]

theorem flagBit_zero (i : Nat) : flagBit Committed.zero i = false := by
  simp [flagBit, window_zero]

/-- Settles O3: the accessors are built from window bytes, which are all 0x00. -/
theorem zeroRegistersReadZeroEverywhere : Obligations.ZeroRegistersReadZeroEverywhere := by
  unfold Obligations.ZeroRegistersReadZeroEverywhere
  intro m hm
  obtain rfl := (committedZero_iff m).mp hm
  refine ⟨window_zero, ?_, ?_, ?_, ?_, str_memRead_zero _ _, str_memRead_zero _ _, ?_⟩
  · simp [stationName, flagBit_zero]
  · simp [radioTextOf, flagBit_zero]
  · simp [radioTextOf, flagBit_zero]
  · simp [clockReading, flagBit_zero]
  · simp [stationId, window_zero]

end Sys2Proof.Machine
end

section
/-! PROOF. The read window by register (R50): an address shows one register, so a group that leaves the register alone
leaves the address alone. The frames of 0A, 0B, 2A and 2B follow. -/

namespace Sys2Proof.Machine

/-- Two committed states read the same at an address where they agree on the register that it shows (R50, R59). -/
theorem window_congr {m n : Committed} {a : BitVec 9}
    (hheader : a.toNat < 0x003 → m.header = n.header)
    (hflags : a.toNat = 0x003 → flagsByte m = flagsByte n)
    (hname : a.toNat = 0x004 ∨ 0x018 ≤ a.toNat ∧ a.toNat < 0x020 → m.name = n.name)
    (hclock : 0x005 ≤ a.toNat ∧ a.toNat < 0x00C → m.clock = n.clock)
    (htag0 : 0x00C ≤ a.toNat ∧ a.toNat < 0x00F → m.tag0 = n.tag0)
    (htag1 : 0x010 ≤ a.toNat ∧ a.toNat < 0x013 → m.tag1 = n.tag1)
    (hrt0 : 0x040 ≤ a.toNat ∧ a.toNat < 0x080 → m.text.rt0 = n.text.rt0)
    (hrt1 : 0x080 ≤ a.toNat ∧ a.toNat < 0x0C0 → m.text.rt1 = n.text.rt1)
    (htitle : 0x0C0 ≤ a.toNat ∧ a.toNat < 0x100 → m.title = n.title)
    (hartist : 0x100 ≤ a.toNat ∧ a.toNat < 0x140 → m.artist = n.artist) : window m a = window n a := by
  unfold window
  iterate 3 refine ite_congr rfl (fun h => by rw [hheader (by omega)]) fun _ => ?_
  refine ite_congr rfl hflags fun _ => ?_
  refine ite_congr rfl (fun h => by rw [hname (.inl h)]) fun _ => ?_
  iterate 7 refine ite_congr rfl (fun h => by rw [hclock (by omega)]) fun _ => ?_
  iterate 3 refine ite_congr rfl (fun h => by rw [htag0 (by omega)]) fun _ => ?_
  iterate 3 refine ite_congr rfl (fun h => by rw [htag1 (by omega)]) fun _ => ?_
  refine ite_congr rfl (fun h => by rw [hname (.inr h)]) fun _ => ?_
  refine ite_congr rfl (fun h => by rw [hrt0 h]) fun _ => ?_
  refine ite_congr rfl (fun h => by rw [hrt1 h]) fun _ => ?_
  refine ite_congr rfl (fun h => by rw [htitle h]) fun _ => ?_
  exact ite_congr rfl (fun h => by rw [hartist h]) fun _ => rfl

theorem window_flags (m : Committed) : window m 0x003 = flagsByte m := rfl

/-- Bits 4 to 7 of FLAGS are those of the radiotext and the clock (R51). -/
theorem flagsByte_getLsbD_of_four_le {m n : Committed} (htext : m.text = n.text) (hclock : m.clock = n.clock) {i : Nat}
    (hi : 4 ≤ i) : (flagsByte m).getLsbD i = (flagsByte n).getLsbD i := by
  obtain ⟨k, rfl⟩ := Nat.exists_eq_add_of_le' hi
  simp only [flagsByte, BitVec.getLsbD_append, htext, hclock]
  simp

theorem mem_addressRange {base n k : Nat} : k ∈ addressRange base n ↔ base ≤ k ∧ k < base + n := by
  simp only [addressRange, List.mem_map, List.mem_range]
  constructor
  · rintro ⟨i, hi, rfl⟩
    omega
  · exact fun h => ⟨k - base, by omega, by omega⟩

/-! ### The type-0 rows -/

theorem exec_of_mem_psRows (x : Payload) (s : State) :
    ∀ mk ∈ psRows, exec (mk x) s = .next (psDecode x (s.header x)) := by
  simp only [psRows, List.forall_mem_cons, List.not_mem_nil, false_imp_iff, implies_true, and_true]
  exact ⟨rfl, rfl⟩

theorem psDecode_windowSameOutside (x : Payload) (s : State) :
    WindowSameOutside ([0x000, 0x001, 0x002, 0x003, 0x004] ++ addressRange 0x018 8) s (psDecode x (s.header x)) := by
  intro a ha
  simp only [List.mem_append, List.mem_cons, List.not_mem_nil, or_false, mem_addressRange] at ha
  rw [psDecode_committed]
  exact window_congr (fun h => by omega) (fun h => by omega) (fun h => by omega) (fun _ => rfl) (fun _ => rfl)
    (fun _ => rfl) (fun _ => rfl) (fun _ => rfl) (fun _ => rfl) (fun _ => rfl)

/-- Settles O22, from the frame of `psDecode` and the register that each address shows. -/
theorem psGroupFrame : Obligations.PsGroupFrame := by
  unfold Obligations.PsGroupFrame
  intro mk hmk x s
  have hcommitted := psDecode_committed x (s.header x)
  have hscratch := psDecode_scratch x (s.header x)
  refine ⟨psDecode x (s.header x), exec_of_mem_psRows x s mk hmk, ?_⟩
  rw [window_flags, window_flags, hcommitted, hscratch]
  exact ⟨rfl, rfl, rfl, rfl, rfl, rfl, rfl, rfl, psDecode_sameInterface x (s.header x), psDecode_windowSameOutside x s,
    fun i hi => flagsByte_getLsbD_of_four_le (by rfl) (by rfl) hi⟩

/-! ### The type-2 rows -/

theorem exec_of_mem_rtRows (x : Payload) (s : State) :
    ∀ r ∈ rtRows, exec (r.1 x) s = .next (rtDecode (r.2 x) (s.header x)) := by
  simp only [rtRows, List.forall_mem_cons, List.not_mem_nil, false_imp_iff, implies_true, and_true]
  exact ⟨rfl, rfl⟩

theorem flip_of_mem_rtRows (x : Payload) : ∀ r ∈ rtRows, (r.2 x).flip = x.gs.getLsbD 4 := by
  simp only [rtRows, List.forall_mem_cons, List.not_mem_nil, false_imp_iff, implies_true, and_true]
  exact ⟨rfl, rfl⟩

theorem header_windowSameOutside (x : Payload) (s : State) :
    WindowSameOutside [0x000, 0x001, 0x002, 0x003] s (s.header x) := by
  intro a ha
  simp only [List.mem_cons, List.not_mem_nil, or_false] at ha
  rw [header_committed]
  exact window_congr (fun h => by omega) (fun h => by omega) (fun _ => rfl) (fun _ => rfl) (fun _ => rfl)
    (fun _ => rfl) (fun _ => rfl) (fun _ => rfl) (fun _ => rfl) (fun _ => rfl)

theorem rtDecode_windowSameOutside (f : RtFields) (x : Payload) (s : State) :
    WindowSameOutside ([0x000, 0x001, 0x002, 0x003] ++ addressRange (if f.flip then 0x080 else 0x040) 64) s
      (rtDecode f (s.header x)) := by
  intro a ha
  have hbank := rtDecode_bank_not f (s.header x)
  simp only [List.mem_append, List.mem_cons, List.not_mem_nil, or_false, mem_addressRange] at ha
  rw [rtDecode_committed]
  cases hflip : f.flip <;> rw [hflip] at ha hbank <;> simp only [Bool.false_eq_true, if_true, if_false] at ha
  · exact window_congr (fun h => by omega) (fun h => by omega) (fun _ => rfl) (fun _ => rfl) (fun _ => rfl)
      (fun _ => rfl) (fun h => by omega) (fun _ => hbank) (fun _ => rfl) (fun _ => rfl)
  · exact window_congr (fun h => by omega) (fun h => by omega) (fun _ => rfl) (fun _ => rfl) (fun _ => rfl)
      (fun _ => rfl) (fun _ => hbank) (fun h => by omega) (fun _ => rfl) (fun _ => rfl)

/-- Settles O27, from the frame of `rtDecode` and the register that each address shows. -/
theorem rtGroupFrame : Obligations.RtGroupFrame := by
  unfold Obligations.RtGroupFrame
  intro r hr x s
  have hcommitted := rtDecode_committed (r.2 x) (s.header x)
  have hscratch := rtDecode_scratch (r.2 x) (s.header x)
  refine ⟨rtDecode (r.2 x) (s.header x), exec_of_mem_rtRows x s r hr, ?_⟩
  rw [hcommitted, hscratch]
  refine ⟨rfl, rfl, rfl, rfl, rfl, rfl, rfl, rfl, rfl, rtDecode_sameInterface (r.2 x) (s.header x), ?_,
    fun hreturn hlength => ?_⟩
  · rw [← flip_of_mem_rtRows x r hr]
    exact rtDecode_windowSameOutside (r.2 x) x s
  · rw [WindowSameOutside,
      rtDecode_committed_of_not_completes (rtRows_inside x r hr) (not_completes hreturn hlength)]
    exact header_windowSameOutside x s

end Sys2Proof.Machine
end

section
/-! PROOF. Which row may change a register (R49 (a), (d)), and which rows read the scratch (R60): register by register,
from the frames of the decoders. -/

namespace Sys2Proof.Machine

/-! ### Each register changes by a row of its own rule alone -/

section
variable {i : Instr} {s t : State} (hexec : exec i s = .next t) (hreset : ∀ d, i ≠ .reset d)
include hexec hreset

/-- TA, MS, PS_SCR and DI_SCR (R26, R35, R36). -/
theorem psRow_of_change
    (h : t.committed.flags ≠ s.committed.flags ∨ t.scratch.ps ≠ s.scratch.ps ∨ t.scratch.di ≠ s.scratch.di) :
    ∃ mk ∈ psRows, ∃ x, rowInstr i = mk x := by
  obtain ⟨f, hf, rfl⟩ := effect_of_exec hexec
  contrapose! h
  cases hf with
  | @ps mk x hmk hrow => exact absurd hrow (h mk hmk x)
  | rt hr hrow => rw [rtDecode_committed, rtDecode_scratch]; exact ⟨rfl, rfl, rfl⟩
  | ct hrow => rw [ctDecode_committed, ctDecode_scratch]; exact ⟨rfl, rfl, rfl⟩
  | openRow hr hrow => rw [openPair_committed, openPair_scratch]; exact ⟨rfl, rfl, rfl⟩
  | reset heq => exact absurd heq (hreset _)
  | idle heq => exact ⟨rfl, rfl, rfl⟩
  | read heq => exact ⟨rfl, rfl, rfl⟩

/-- PS, DI and PS_VALID (R27 to R29). -/
theorem psRow_of_name_change (h : t.committed.name ≠ s.committed.name) :
    ∃ mk ∈ psRows, ∃ x, rowInstr i = mk x ∧ x.gs.extractLsb' 0 2 = 3 := by
  obtain ⟨f, hf, rfl⟩ := effect_of_exec hexec
  contrapose! h
  cases hf with
  | @ps mk x hmk hrow => rw [psDecode_committed]; exact if_neg (h mk hmk x hrow)
  | rt hr hrow => rw [rtDecode_committed]; rfl
  | ct hrow => rw [ctDecode_committed]; rfl
  | openRow hr hrow => rw [openPair_committed]
  | reset heq => exact absurd heq (hreset _)
  | idle heq => rfl
  | read heq => rfl

/-- RT_SCR and RT_SCR_FLAG (R37, R38). -/
theorem rtRow_of_scratch_change (h : t.scratch.rt ≠ s.scratch.rt ∨ t.scratch.rtFlag ≠ s.scratch.rtFlag) :
    ∃ r ∈ rtRows, ∃ x, rowInstr i = r.1 x := by
  obtain ⟨f, hf, rfl⟩ := effect_of_exec hexec
  contrapose! h
  cases hf with
  | ps hmk hrow => rw [psDecode_scratch]; exact ⟨rfl, rfl⟩
  | @rt r x hr hrow => exact absurd hrow (h r hr x)
  | ct hrow => rw [ctDecode_scratch]; exact ⟨rfl, rfl⟩
  | openRow hr hrow => rw [openPair_scratch]; exact ⟨rfl, rfl⟩
  | reset heq => exact absurd heq (hreset _)
  | idle heq => exact ⟨rfl, rfl⟩
  | read heq => exact ⟨rfl, rfl⟩

/-- RT, RT_VALID and RT_FLAG (R28, R30, R31). -/
theorem rtRow_of_text_change (h : t.committed.text ≠ s.committed.text) :
    ∃ r ∈ rtRows, ∃ x, rowInstr i = r.1 x ∧ (r.2 x).completes := by
  obtain ⟨f, hf, rfl⟩ := effect_of_exec hexec
  contrapose! h
  cases hf with
  | ps hmk hrow => rw [psDecode_committed]; rfl
  | @rt r x hr hrow =>
    rw [rtDecode_committed_of_not_completes (rtRows_inside x r hr) (h r hr x hrow)]; rfl
  | ct hrow => rw [ctDecode_committed]; rfl
  | openRow hr hrow => rw [openPair_committed]
  | reset heq => exact absurd heq (hreset _)
  | idle heq => rfl
  | read heq => rfl

/-- TAG, TITLE and ARTIST (R33, R34). -/
theorem openRow_of_tag_change
    (h : t.committed.tag0 ≠ s.committed.tag0 ∨ t.committed.tag1 ≠ s.committed.tag1 ∨
      t.committed.title ≠ s.committed.title ∨ t.committed.artist ≠ s.committed.artist) :
    ∃ r ∈ openRows, ∃ x, rowInstr i = r.2.2 x ∧ s.cfg.isRtp r.1 r.2.1 = true ∧ x.gs.getLsbD 4 = true := by
  obtain ⟨f, hf, rfl⟩ := effect_of_exec hexec
  contrapose! h
  cases hf with
  | ps hmk hrow => rw [psDecode_committed]; exact ⟨rfl, rfl, rfl, rfl⟩
  | rt hr hrow => rw [rtDecode_committed]; exact ⟨rfl, rfl, rfl, rfl⟩
  | ct hrow => rw [ctDecode_committed]; exact ⟨rfl, rfl, rfl, rfl⟩
  | @openRow r x hr hrow =>
    rw [openPair_of_not_running fun hrun => h r hr x hrow hrun.1 hrun.2]; exact ⟨rfl, rfl, rfl, rfl⟩
  | reset heq => exact absurd heq (hreset _)
  | idle heq => exact ⟨rfl, rfl, rfl, rfl⟩
  | read heq => exact ⟨rfl, rfl, rfl, rfl⟩

/-- The clock registers (R28, R32). -/
theorem ctRow_of_clock_change (h : t.committed.clock ≠ s.committed.clock) :
    ∃ x, rowInstr i = .grp4A x ∧ accepts (ctFields x) = true := by
  obtain hsame | ⟨⟨d, hd⟩, -⟩ | ⟨x, hrow, haccepts, -⟩ := exec_clock hexec
  · exact absurd hsame h
  · exact absurd hd (hreset d)
  · exact ⟨x, hrow, haccepts⟩

end

/-- Settles O51, one clause per group of registers that a rule writes together. -/
theorem registersChangeOnlyByTheirOwnRule : Obligations.RegistersChangeOnlyByTheirOwnRule := by
  unfold Obligations.RegistersChangeOnlyByTheirOwnRule
  intro i s t hexec hreset
  refine ⟨psRow_of_change hexec hreset, psRow_of_name_change hexec hreset, fun h => ?_,
    rtRow_of_text_change hexec hreset, fun h => ?_, openRow_of_tag_change hexec hreset⟩
  · obtain ⟨r, hr, x, hrow⟩ := rtRow_of_scratch_change hexec hreset h
    exact ⟨r.1, List.mem_map_of_mem (f := Prod.fst) hr, x, hrow⟩
  · obtain ⟨x, hrow, haccepts⟩ := ctRow_of_clock_change hexec hreset h
    exact ⟨x, hrow, (accepts_iff _).mp haccepts⟩

/-! ### A valid bit stays set (R28) -/

/-- Settles O52: a commit sets its valid bit, and no other row writes it. -/
theorem validBitsStaySet : Obligations.ValidBitsStaySet := by
  unfold Obligations.ValidBitsStaySet
  intro i s t hexec hreset
  obtain ⟨f, hf, rfl⟩ := effect_of_exec hexec
  cases hf with
  | @ps mk x hmk hrow =>
    rw [psDecode_committed]
    refine ⟨fun h => ?_, id, id, id⟩
    dsimp only
    split
    · rfl
    · exact h
  | @rt r x hr hrow =>
    have htext := rtDecode_validOf (r.2 x) (s.header x)
    rw [rtDecode_committed]
    exact ⟨id, htext false, htext true, id⟩
  | @ct x hrow =>
    rw [ctDecode_committed]
    refine ⟨id, id, id, fun h => ?_⟩
    dsimp only
    split
    · rfl
    · exact h
  | openRow hr hrow => rw [openPair_committed]; exact ⟨id, id, id, id⟩
  | reset heq => exact absurd heq (hreset _)
  | idle heq => exact ⟨id, id, id, id⟩
  | read heq => exact ⟨id, id, id, id⟩

/-! ### The scratch is hidden until a commit (R60) -/

/-- The state with another scratch. -/
def State.withScratch (s : State) (r : Scratch) : State := { s with scratch := r }

/-! RT+ reads committed registers and the configuration, no scratch (R153, R154). -/

theorem commitDerived_withScratch (t : Tag) (s : State) (r : Scratch) :
    commitDerived t (s.withScratch r) = (commitDerived t s).withScratch r := by
  simp only [commitDerived, apply_ite (State.withScratch · r)]
  rfl

theorem processTag0_withScratch (t : Tag) (s : State) (r : Scratch) :
    processTag0 t (s.withScratch r) = (processTag0 t s).withScratch r := by
  simp only [processTag0, apply_ite (State.withScratch · r), ← commitDerived_withScratch]
  rfl

theorem processTag1_withScratch (t : Tag) (s : State) (r : Scratch) :
    processTag1 t (s.withScratch r) = (processTag1 t s).withScratch r := by
  simp only [processTag1, apply_ite (State.withScratch · r), ← commitDerived_withScratch]
  rfl

theorem rtpDecode_withScratch (x : Payload) (s : State) (r : Scratch) :
    rtpDecode x (s.withScratch r) = (rtpDecode x s).withScratch r := by
  simp only [rtpDecode, apply_ite (State.withScratch · r), ← processTag1_withScratch, ← processTag0_withScratch]

theorem openPair_withScratch (type : BitVec 4) (version : Bit) (x : Payload) (s : State) (r : Scratch) :
    openPair type version x (s.withScratch r) = (openPair type version x s).withScratch r := by
  simp only [openPair, apply_ite (State.withScratch · r), ← rtpDecode_withScratch]
  rfl

/-- Settles O53: only the two commits that the premises leave out read the scratch. -/
theorem scratchIsHiddenUntilACommit : Obligations.ScratchIsHiddenUntilACommit := by
  unfold Obligations.ScratchIsHiddenUntilACommit
  intro i s other hps hrt
  obtain ⟨f, hf, hexec⟩ := exec_effect i
  refine ⟨f s, f (s.withScratch other), hexec s, hexec _, ?_⟩
  cases hf with
  | @ps mk x hmk hrow =>
    have haddr : (psFields x).addr ≠ 3 := hps mk hmk x hrow
    rw [psDecode_committed, psDecode_committed, if_neg haddr, if_neg haddr]
    rfl
  | @rt r x hr hrow =>
    obtain ⟨hreturn, hlength⟩ := hrt r hr x hrow
    have hinside := rtRows_inside x r hr
    have hincomplete := not_completes hreturn hlength
    rw [rtDecode_committed_of_not_completes hinside hincomplete,
      rtDecode_committed_of_not_completes hinside hincomplete]
    rfl
  | ct hrow => rw [ctDecode_committed, ctDecode_committed]; rfl
  | openRow hr hrow => rw [openPair_withScratch]; rfl
  | reset heq => rfl
  | idle heq => rfl
  | read heq => rfl

end Sys2Proof.Machine
end

section
/-! PROOF. The handshake edge by edge (R41 to R46): what each kind of edge does to an idle and to a busy block. -/

namespace Sys2Proof.Machine

/-! ### An edge with a reset -/

/-- `soft_reset` wins over a presented group (R42, R72). -/
theorem instrAt_of_softReset {e : Edge} (h : e.softReset = true) (s : State) : ∃ d, instrAt e s = .reset d := by
  cases hvalid : e.grpValid with
  | false => exact ⟨none, by simp [instrAt, ctrlOf, h, hvalid, decode]⟩
  | true => exact ⟨some e.words, by simp [instrAt, ctrlOf, h, hvalid, decode]⟩

theorem clockEdge_of_softReset {e : Edge} (hrst : e.rstN = true) (hsoft : e.softReset = true) (s : State) :
    clockEdge e s = .next s.clearAll := by
  obtain ⟨d, hd⟩ := instrAt_of_softReset hsoft s
  calc clockEdge e s
      = runThenAdvance (.reset d) s := by simp [clockEdge, hrst, hd]
    _ = advance s.clearAll := runThenAdvance_of_exec rfl
    _ = .next s.clearAll := advance_of_none rfl

/-- A step at an edge that clears leaves every register 0 and nothing in progress. -/
theorem step_of_clearing_edge {s : State} {e : Edge} {rest : List Input} (hwf : s.cfg.wf = true)
    (hin : s.inputs = .edge e :: rest)
    (hclear : clockEdge e (s.withInputs rest) = .next (s.withInputs rest).clearAll) :
    ∃ t, step s = .next t ∧ CommittedZero t.committed ∧ ScratchZero t.scratch ∧ t.inFlight = none ∧ t.inputs = rest :=
  ⟨_, step_of_edge hwf hin hclear, committedZero_zero, scratchZero_zero, rfl, rfl⟩

/-- Settles O40: at such an edge RESET runs, and then a cycle with nothing in progress. -/
theorem softResetWinsAndCancels : Obligations.SoftResetWinsAndCancels := by
  unfold Obligations.SoftResetWinsAndCancels
  intro s e rest hwf hin hrst hsoft
  refine ⟨fun hvalid => ?_, step_of_clearing_edge hwf hin (clockEdge_of_softReset hrst hsoft _)⟩
  simp [consumes, grpReady, hrst, hsoft, hvalid]

/-- Settles O41: `rst_n` is tested first, by the edge and by `grp_ready`. -/
theorem powerUpResetWinsOverEverything : Obligations.PowerUpResetWinsOverEverything := by
  unfold Obligations.PowerUpResetWinsOverEverything
  intro s e rest hwf hin hrst
  have hready : grpReady e s = false := by simp [grpReady, hrst]
  refine ⟨hready, ?_, step_of_clearing_edge hwf hin (clockEdge_of_rstN hrst _)⟩
  simp [consumes, hready]

/-! ### An idle block -/

/-- No instruction brings an APPLY into progress (R41). -/
theorem exec_inFlight_none {i : Instr} {s t : State} (hidle : s.inFlight = none) (h : exec i s = .next t) :
    t.inFlight = none :=
  (exec_inFlight h).elim (·.trans hidle) id

/-- With nothing in progress the cycle after an instruction changes nothing. -/
theorem runThenAdvance_of_idle {s : State} (hidle : s.inFlight = none) (i : Instr) :
    runThenAdvance i s = exec i s := by
  obtain ⟨t, ht⟩ := exec_completes i s
  rw [runThenAdvance_of_exec ht, ht, advance_of_none (exec_inFlight_none hidle ht)]

/-- An edge of latency 1 runs what its signals request, `grp_ready` being 1 (R41, R45, R72). -/
theorem clockEdge_of_idle {e : Edge} {s : State} (hrst : e.rstN = true) (hextra : e.extra = 0)
    (hidle : s.inFlight = none) : clockEdge e s = exec (decode (.ctrl (ctrlOf e) true e.words)) s := by
  have hinstr : instrAt e s = decode (.ctrl (ctrlOf e) true e.words) := by rw [instrAt, grpReady_of_none hrst hidle]
  simp [clockEdge, hrst, hextra, hinstr, runThenAdvance_of_idle hidle]

theorem step_of_read {s : State} {addr : BitVec 9} {rest : List Input} (hwf : s.cfg.wf = true)
    (hin : s.inputs = .read addr :: rest) : step s = exec (.read addr) (s.withInputs rest) := by
  simp [step_of_wf hwf, runInput, dropInput_of_cons hin, hin]

theorem step_of_nil {s : State} (hwf : s.cfg.wf = true) (hin : s.inputs = []) : step s = advance s := by
  simp [step_of_wf hwf, runInput, hin, clockEdge_quietEdge]

/-- Settles O39: an idle block runs what is requested, and the cycle after it changes nothing. -/
theorem stepRunsTheRequestedInstruction : Obligations.StepRunsTheRequestedInstruction := by
  unfold Obligations.StepRunsTheRequestedInstruction
  refine fun s hwf hidle => ⟨fun e rest hin hrst hextra => ?_, fun addr rest hin => step_of_read hwf hin, fun hin => ?_⟩
  · exact step_of_edge hwf hin (clockEdge_of_idle (s := s.withInputs rest) hrst hextra hidle)
  · rw [step_of_nil hwf hin, advance_of_none hidle]
    rfl

/-- An edge of latency 1 leaves an idle block idle. -/
theorem clockEdge_inFlight_none {e : Edge} {s t : State} (hextra : e.extra = 0) (hidle : s.inFlight = none)
    (h : clockEdge e s = .next t) : t.inFlight = none := by
  cases hrst : e.rstN with
  | false =>
    rw [clockEdge_of_rstN hrst] at h
    exact Host.Outcome.next.inj h ▸ rfl
  | true =>
    rw [clockEdge_of_idle hrst hextra hidle] at h
    exact exec_inFlight_none hidle h

theorem step_inFlight_none {s t : State} (hidle : s.inFlight = none)
    (hextra : ∀ e, Input.edge e ∈ s.inputs → e.extra = 0) (hstep : step s = .next t) : t.inFlight = none := by
  cases hwf : s.cfg.wf with
  | false => rw [step_of_not_wf hwf] at hstep; contradiction
  | true =>
    cases hin : s.inputs with
    | nil =>
      rw [step_of_nil hwf hin, advance_of_none hidle] at hstep
      exact Host.Outcome.next.inj hstep ▸ hidle
    | cons i rest =>
      cases i with
      | edge e =>
        rw [step_of_edge hwf hin rfl] at hstep
        exact clockEdge_inFlight_none (s := s.withInputs rest) (hextra e (hin ▸ List.mem_cons_self)) hidle hstep
      | read addr =>
        rw [step_of_read hwf hin] at hstep
        exact exec_inFlight_none (s := s.withInputs rest) hidle hstep

/-- Settles O42: an edge of latency 1 applies its group at once, so an idle block stays idle. -/
theorem readyUnlessAnApplyIsInProgress : Obligations.ReadyUnlessAnApplyIsInProgress := by
  unfold Obligations.ReadyUnlessAnApplyIsInProgress
  refine ⟨fun e s hrst hsoft => ?_, fun e s => grpReady_of_none, fun s t => step_inFlight_none⟩
  simp [grpReady, hrst, hsoft]

/-! ### A busy block -/

/-- A busy block is not ready for a group (R41, R45). -/
theorem grpReady_of_some {e : Edge} {s : State} (hsoft : e.softReset = false) (hbusy : s.inFlight ≠ none) :
    grpReady e s = false := by
  simp [grpReady, hsoft, Option.isNone_eq_false_iff, Option.isSome_iff_ne_none.mpr hbusy]

/-- Settles O43: the group is taken, with its latency's count, and nothing else changes. -/
theorem acceptedGroupIsNotYetVisible : Obligations.AcceptedGroupIsNotYetVisible := by
  unfold Obligations.AcceptedGroupIsNotYetVisible
  intro s g extra rest hwf hidle hin
  have hedge := clockEdge_groupEdge_succ (s := s.withInputs rest) hidle g extra
  exact ⟨_, step_of_edge hwf hin hedge, rfl, rfl, rfl, rfl, fun e hsoft =>
    grpReady_of_some hsoft (Option.some_ne_none _)⟩

/-- An edge at which a group waits only lets the cycle pass (R41, R72). -/
theorem clockEdge_groupEdge_of_busy (h : RdsGroup) (s : State) (hbusy : s.inFlight ≠ none) :
    clockEdge (groupEdge h 0) s = clockEdge quietEdge s := by
  have hctrl : ctrlOf (groupEdge h 0) = 0b01 := by simp [ctrlOf, groupEdge]
  have hinstr : instrAt (groupEdge h 0) s = .idle (some h) := by
    rw [instrAt, grpReady_of_some rfl hbusy, hctrl]
    rfl
  simp only [clockEdge, hinstr]
  rfl

/-! An edge that only lets a busy block's cycle pass: an idle host's, or one at which a group waits. -/

section
variable {e : Edge} (hpass : ∀ u : State, u.inFlight ≠ none → clockEdge e u = clockEdge quietEdge u)
include hpass

/-- Before its last cycle an APPLY in progress changes no register (R41). -/
theorem run_passingEdges_earlier {s : State} {g : RdsGroup} {n k : Nat} {rest : List Input} (hwf : s.cfg.wf = true)
    (hflight : s.inFlight = some { group := g, left := n + 1 })
    (hin : s.inputs = List.replicate (n + 1) (.edge e) ++ rest) (hk : k ≤ n) :
    Sys2Proof.core.run k s =
      .next ((s.accept g (n + 1 - k)).withInputs (List.replicate (n + 1 - k) (.edge e) ++ rest)) := by
  induction k generalizing s n with
  | zero =>
    have hsame : (s.accept g (n + 1)).withInputs (List.replicate (n + 1) (.edge e) ++ rest) = s := by
      rw [State.withInputs, State.accept, ← hflight, ← hin]
    exact congrArg Host.Outcome.next hsame.symm
  | succ k ih =>
    obtain ⟨m, rfl⟩ : ∃ m, n = m + 1 := ⟨n - 1, by omega⟩
    have hbusy : s.inFlight ≠ none := hflight ▸ Option.some_ne_none _
    have hedge := (hpass (s.withInputs (List.replicate (m + 1) (.edge e) ++ rest)) hbusy).trans
      (clockEdge_quietEdge_earlier hflight)
    have hstep := step_of_edge hwf hin hedge
    rw [run_succ_of_step k hstep, Nat.add_sub_add_right]
    exact ih (n := m) hwf rfl rfl (by omega)

/-- At its last cycle it lands, whole (R41, R52). -/
theorem run_passingEdges {s : State} {g : RdsGroup} {n : Nat} {rest : List Input} (hwf : s.cfg.wf = true)
    (hflight : s.inFlight = some { group := g, left := n + 1 })
    (hin : s.inputs = List.replicate (n + 1) (.edge e) ++ rest) :
    Sys2Proof.core.run (n + 1) s = .next ((s.land.withInputs rest).afterApply g) := by
  have hearlier := run_passingEdges_earlier hpass hwf hflight hin (le_refl n)
  rw [run_add_of_next Sys2Proof.core 1 hearlier, Nat.add_sub_cancel_left]
  have hedge := (hpass ((s.accept g 1).withInputs rest) (Option.some_ne_none _)).trans (clockEdge_quietEdge_last rfl)
  exact run_one_of_step (step_of_edge (s := (s.accept g 1).withInputs (.edge e :: rest)) hwf rfl hedge)

end

/-- Settles O44: the run to the landing is `run_groupInputs`; before it only the count of cycles falls. -/
theorem applyLandsWholeAfterItsLatency : Obligations.ApplyLandsWholeAfterItsLatency := by
  unfold Obligations.ApplyLandsWholeAfterItsLatency
  refine fun s g extra rest hwf hidle hin => ⟨run_groupInputs hwf hidle hin, fun k hk => ?_⟩
  cases k with
  | zero => exact ⟨s, rfl, rfl, rfl⟩
  | succ k =>
    obtain ⟨n, rfl⟩ : ∃ n, extra = n + 1 := ⟨extra - 1, by omega⟩
    have hstep := step_of_edge hwf hin
      (clockEdge_groupEdge_succ (s := s.withInputs (List.replicate (n + 1) (.edge quietEdge) ++ rest)) hidle g n)
    rw [run_succ_of_step k hstep]
    exact ⟨_, run_passingEdges_earlier (s := State.accept _ g (n + 1)) (n := n) (fun _ _ => rfl) hwf rfl
      rfl (by omega), rfl, rfl⟩

/-- Settles O46: the group in progress lands at the last edge at which the other waits, and the next edge takes that. -/
theorem waitingGroupIsAppliedNext : Obligations.WaitingGroupIsAppliedNext := by
  unfold Obligations.WaitingGroupIsAppliedNext
  intro s g h n rest hwf hflight hin
  rw [List.replicate_succ', List.append_assoc] at hin
  obtain ⟨hidle, -, -, hcfg⟩ := afterApply_sameInterface s.land g
  have hfirst := run_passingEdges (clockEdge_groupEdge_of_busy h) hwf hflight hin
  have hedge := clockEdge_groupEdge_zero (s := (s.land.afterApply g).withInputs rest) hidle h
  have hnext := step_of_edge (s := (s.land.afterApply g).withInputs (.edge (groupEdge h 0) :: rest)) (hcfg ▸ hwf) rfl
    hedge
  rw [afterApply_withInputs] at hfirst
  have hboth : ((s.land.afterApply g).withInputs rest).afterApply h =
      ((s.land.withInputs rest).afterApply g).afterApply h := by
    rw [afterApply_withInputs s.land g rest]
  exact (run_add_of_next Sys2Proof.core 1 hfirst).trans
    ((run_one_of_step hnext).trans (congrArg Host.Outcome.next hboth))

end Sys2Proof.Machine
end

section
/-! PROOF. Reading the window: its map by register (R50, R51), one READ (R56), and n READs in a row (R57). -/

namespace Sys2Proof.Machine

/-! ### The map (R50) -/

/-- From 0x013 on the window shows byte arrays and reserved addresses alone. -/
theorem window_of_arrays (m : Committed) {a : BitVec 9} {n : Nat} (ha : a.toNat = n) (h : 0x013 ≤ n) :
    window m a =
      if 0x018 ≤ n ∧ n < 0x020 then byteAt m.name.ps (n - 0x018)
      else if 0x040 ≤ n ∧ n < 0x080 then byteAt m.text.rt0 (n - 0x040)
      else if 0x080 ≤ n ∧ n < 0x0C0 then byteAt m.text.rt1 (n - 0x080)
      else if 0x0C0 ≤ n ∧ n < 0x100 then byteAt m.title (n - 0x0C0)
      else if 0x100 ≤ n ∧ n < 0x140 then byteAt m.artist (n - 0x100)
      else 0x00 := by
  subst ha
  unfold window
  iterate 18 rw [if_neg (by omega)]

/-- An address of the window is the sum it is formed from (R58). -/
theorem toNat_windowAddress {base i : Nat} (h : base + i < 0x200) : (BitVec.ofNat 9 (base + i)).toNat = base + i := by
  rw [BitVec.toNat_ofNat, Nat.mod_eq_of_lt h]

/-- Settles O4: a register of one or two bytes by evaluation at its addresses, an array and a reserved range by the
range of its addresses. -/
theorem readWindowMap : Obligations.ReadWindowMap := by
  unfold Obligations.ReadWindowMap
  intro m
  refine ⟨rfl, rfl, rfl, rfl, rfl, rfl, rfl, rfl, rfl, rfl, rfl, rfl, rfl, rfl, rfl, rfl, rfl, rfl,
    fun i hi => ?ps, fun i hi => ?rt0, fun i hi => ?rt1, fun i hi => ?title, fun i hi => ?artist, rfl,
    fun a hlow hhigh => ?reserved, fun a hlow hhigh => ?reserved', fun a hlow => ?reserved''⟩
  case ps | rt0 | rt1 | title | artist =>
    refine (window_of_arrays m (toNat_windowAddress (by omega)) (by omega)).trans ?_
    simp (disch := omega) only [if_pos, if_neg, Nat.add_sub_cancel_left]
  case reserved | reserved' | reserved'' =>
    refine (window_of_arrays m rfl (by omega)).trans ?_
    simp (disch := omega) only [if_neg]

/-- Settles O5: each flag is one bit of the concatenation that is FLAGS. -/
theorem flagsByteBits : Obligations.FlagsByteBits := by
  unfold Obligations.FlagsByteBits
  intro m
  simp only [window_flags, flagsByte, BitVec.getLsbD_append]
  simp

/-! ### READs (R56, R57) -/

theorem exec_read (addr : BitVec 9) (s : State) : exec (.read addr) s = .next (s.setRdAddr addr) := rfl

@[simp] theorem State.setRdAddr_rdData (s : State) (addr : BitVec 9) :
    (s.setRdAddr addr).rdData = window s.committed addr := rfl

/-- Settles O6: a READ puts its address on `rd_addr`, where it stands already when the READ comes again. -/
theorem readReturnsTheWindowByte : Obligations.ReadReturnsTheWindowByte := by
  unfold Obligations.ReadReturnsTheWindowByte
  intro addr s
  exact ⟨s.setRdAddr addr, exec_read addr s, s.setRdAddr_rdData addr, rfl, rfl, rfl, rfl, rfl,
    exec_read addr (s.setRdAddr addr)⟩

/-- After the READ of `addrs[k]` that address stands on `rd_addr`, the later inputs are still to come, and nothing else
has changed (R56). -/
theorem run_reads {s : State} {addrs : List (BitVec 9)} {rest : List Input} {k : Nat} {addr : BitVec 9}
    (hwf : s.cfg.wf = true) (hin : s.inputs = addrs.map Input.read ++ rest) (hk : addrs[k]? = some addr) :
    Sys2Proof.core.run (k + 1) s =
      .next ((s.withInputs ((addrs.drop (k + 1)).map Input.read ++ rest)).setRdAddr addr) := by
  induction addrs generalizing s k with
  | nil => cases hk
  | cons a addrs ih =>
    have hstep := (step_of_read hwf hin).trans (exec_read a _)
    cases k with
    | zero =>
      cases hk
      exact run_one_of_step hstep
    | succ k =>
      rw [run_succ_of_step (k + 1) hstep]
      exact ih hwf rfl hk

/-- Settles O7: every READ of the run finds the committed registers of the first. -/
theorem undisturbedReadsAreOneSnapshot : Obligations.UndisturbedReadsAreOneSnapshot := by
  unfold Obligations.UndisturbedReadsAreOneSnapshot
  intro s base n k rest hwf hk hin
  have hreads : s.inputs = ((List.range n).map fun i => BitVec.ofNat 9 (base + i)).map Input.read ++ rest := by
    rw [hin, List.map_map]
    rfl
  refine ⟨_, run_reads (addr := BitVec.ofNat 9 (base + k)) hwf hreads (by simp [hk]), rfl, ?_⟩
  simp [memRead, hk, State.withInputs]

end Sys2Proof.Machine
end

section
/-! PROOF. The opcode map (R83): a pair's row, its place in the table and its encoding, said once for all 32 pairs. The
two round trips and the uniqueness of a group's row follow from it and from the layout of block B (Laws/Decode.lean). -/

namespace Sys2Proof

theorem decode_group (g : RdsGroup) :
    decode (.group g) = groupRow (typeOf g.b) (versionOf g.b) (payloadOf g) := rfl

theorem decode_groupOf (type : BitVec 4) (version : Bit) (x : Payload) :
    decode (.group (groupOf type version x)) = groupRow type version x := by
  rw [decode_group, payloadOf_groupOf, groupOf, typeOf_blockB, versionOf_blockB]

theorem eq_ofNat_of_type (type : BitVec 4) : ∃ n < 16, type = BitVec.ofNat 4 n :=
  ⟨type.toNat, type.isLt, by simp⟩

/-- The encoder writes back the pair by which the opcode map chose the row. -/
theorem encode_groupRow (type : BitVec 4) (version : Bit) (x : Payload) :
    encode (groupRow type version x) = .group (groupOf type version x) := by
  obtain ⟨n, hn, rfl⟩ := eq_ofNat_of_type type
  interval_cases n <;> cases version <;> rfl

/-- The row of a pair in the opcode table: the mask is B[15:11], the match value holds the pair there, and the payload
takes no part (R75, R83). -/
theorem rowOf_groupRow (type : BitVec 4) (version : Bit) : ∃ mnemonic, ∀ x, rowOf (groupRow type version x) =
    ⟨mnemonic, .group, 0xF800, type ++ BitVec.ofBool version ++ (0 : BitVec 11)⟩ := by
  obtain ⟨n, hn, rfl⟩ := eq_ofNat_of_type type
  interval_cases n <;> cases version <;> exact ⟨_, fun _ => rfl⟩

/-! ### The round trips (R90) -/

theorem decode_encode (i : Instr) : decode (encode i) = i := by
  cases i with
  | apply g => rfl
  | reset discarded => cases discarded <;> rfl
  | idle waiting => cases waiting <;> rfl
  | read addr => rfl
  | _ x => exact decode_groupOf _ _ x

/-- Settles O9: a GROUP row by `decode_groupOf`, the other four by evaluation. -/
theorem decodeOfEncode : Obligations.DecodeOfEncode := by
  unfold Obligations.DecodeOfEncode
  exact fun i _ => decode_encode i

/-- Settles O10: the encoder puts the fields of block B back where the decoder found them. -/
theorem encodeOfDecodedGroup : Obligations.EncodeOfDecodedGroup := by
  unfold Obligations.EncodeOfDecodedGroup
  intro g
  rw [decode_group, encode_groupRow, groupOf_of_fields]

/-! ### The row of a group (R84) -/

theorem pairBits_inj {type type' : BitVec 4} {version version' : Bit} :
    type ++ BitVec.ofBool version ++ (0 : BitVec 11) = type' ++ BitVec.ofBool version' ++ (0 : BitVec 11) ↔
      type = type' ∧ version = version' := by
  revert type type' version version'
  decide

/-- The row of a group selects the groups of the same pair. -/
theorem selects_iff_samePair (g h : RdsGroup) : (rowOf (decode (.group g))).selects (.group h) = true ↔
    typeOf h.b = typeOf g.b ∧ versionOf h.b = versionOf g.b := by
  obtain ⟨mnemonic, hrow⟩ := rowOf_groupRow (typeOf g.b) (versionOf g.b)
  have hmask := blockB_and_mask (typeOf h.b) (versionOf h.b) (payloadOf h)
  rw [blockB_of_fields] at hmask
  rw [decode_group, hrow, ← pairBits_inj, ← hmask]
  simp [OpcodeRow.selects, selectorOf]

/-- The groups of one pair have one row. -/
theorem rowOf_decode_of_samePair {g h : RdsGroup} (htype : typeOf g.b = typeOf h.b)
    (hversion : versionOf g.b = versionOf h.b) : rowOf (decode (.group g)) = rowOf (decode (.group h)) := by
  obtain ⟨mnemonic, hrow⟩ := rowOf_groupRow (typeOf h.b) (versionOf h.b)
  rw [decode_group, decode_group, htype, hversion, hrow, hrow]

/-- An instruction whose row is of the GROUP format is what some group decodes to. -/
theorem eq_decode_group_of_format {i : Instr} (h : (rowOf i).format = .group) : ∃ g, i = decode (.group g) := by
  cases i with
  | apply _ | reset _ | idle _ | read _ => cases h
  | _ x => exact ⟨_, (decode_encode _).symm⟩

theorem format_of_selects_group {row : OpcodeRow} {g : RdsGroup} (h : row.selects (.group g) = true) :
    row.format = .group := by
  simp only [OpcodeRow.selects, Bool.and_eq_true, beq_iff_eq] at h
  exact h.1.symm

/-- Settles O11: a row that selects a group is the row of some group, and then of one with the same pair. -/
theorem everyGroupHasExactlyOneRow : Obligations.EveryGroupHasExactlyOneRow := by
  unfold Obligations.EveryGroupHasExactlyOneRow
  refine fun g => ⟨(selects_iff_samePair g g).mpr ⟨rfl, rfl⟩, fun i hselects => ?_⟩
  obtain ⟨h, rfl⟩ := eq_decode_group_of_format (format_of_selects_group hselects)
  obtain ⟨htype, hversion⟩ := (selects_iff_samePair h g).mp hselects
  exact rowOf_decode_of_samePair htype.symm hversion.symm

/-- Settles O15: each of the ten requests by evaluation. -/
theorem specWordsDecode : Obligations.SpecWordsDecode := by
  unfold Obligations.SpecWordsDecode
  decide

end Sys2Proof
end

section
/-! PROOF. What the two CTRL bits request (R72). -/

namespace Sys2Proof.Machine

/-- The request at an edge, with the CTRL bits named by their values. -/
theorem instrAt_of_signals {e : Edge} {soft valid : Bit} (hsoft : e.softReset = soft) (hvalid : e.grpValid = valid)
    (s : State) :
    instrAt e s = decode (.ctrl (BitVec.ofBool soft ++ BitVec.ofBool valid) (grpReady e s) e.words) := by
  rw [instrAt, ctrlOf, hsoft, hvalid]

/-- Settles O12: the CTRL bits decide every case but 0b01, where `grp_ready` does. -/
theorem ctrlValuesDecode : Obligations.CtrlValuesDecode := by
  unfold Obligations.CtrlValuesDecode
  refine fun e s hrst => ⟨fun hsoft hvalid => ?idle, fun hsoft hvalid hready => ?apply,
    fun hsoft hvalid hbusy => ?wait, fun hsoft hvalid => ?reset, fun hsoft hvalid => ?resetWithGroup⟩ <;>
    rw [instrAt_of_signals hsoft hvalid]
  case idle | reset | resetWithGroup => rfl
  case apply =>
    rw [grpReady_of_none hrst hready]
    rfl
  case wait =>
    rw [grpReady_of_some hsoft hbusy]
    rfl

end Sys2Proof.Machine
end

section
/-! PROOF. The fields of each layout (R76 to R82), read from the words of a group. What a decoder does depends on the
group only through the fields of its layout, so a bit outside them has no effect (R91). -/

namespace Sys2Proof.Machine

/-! ### The layouts -/

theorem gs_getLsbD (g : RdsGroup) {i : Nat} (h : i < 5) : (payloadOf g).gs.getLsbD i = g.b.getLsbD i := by
  simp [payloadOf, gsOf, h]

theorem gs_extractLsb' (g : RdsGroup) {start len : Nat} (h : start + len ≤ 5) :
    (payloadOf g).gs.extractLsb' start len = g.b.extractLsb' start len :=
  BitVec.extractLsb'_extractLsb'_of_le h

theorem psFields_payloadOf (g : RdsGroup) : psFields (payloadOf g) =
    { ta := g.b.getLsbD 4, ms := g.b.getLsbD 3, di := g.b.getLsbD 2, addr := g.b.extractLsb' 0 2,
      c0 := g.d.extractLsb' 8 8, c1 := g.d.extractLsb' 0 8 } := by
  simp (disch := decide) only [psFields, gs_getLsbD, gs_extractLsb']
  rfl

theorem rtFields2A_payloadOf (g : RdsGroup) : rtFields2A (payloadOf g) =
    { flip := g.b.getLsbD 4, off := 4 * (g.b.extractLsb' 0 4).toNat,
      seg := [g.c.extractLsb' 8 8, g.c.extractLsb' 0 8, g.d.extractLsb' 8 8, g.d.extractLsb' 0 8] } := by
  simp (disch := decide) only [rtFields2A, flipOf, rtAddrOf, gs_getLsbD, gs_extractLsb']
  rfl

theorem rtFields2B_payloadOf (g : RdsGroup) : rtFields2B (payloadOf g) =
    { flip := g.b.getLsbD 4, off := 2 * (g.b.extractLsb' 0 4).toNat,
      seg := [g.d.extractLsb' 8 8, g.d.extractLsb' 0 8] } := by
  simp (disch := decide) only [rtFields2B, flipOf, rtAddrOf, gs_getLsbD, gs_extractLsb']
  rfl

theorem ctFields_payloadOf (g : RdsGroup) : ctFields (payloadOf g) =
    { mjd := g.b.extractLsb' 0 2 ++ g.c.extractLsb' 1 15, hour := g.c.extractLsb' 0 1 ++ g.d.extractLsb' 12 4,
      minute := g.d.extractLsb' 6 6, osign := g.d.getLsbD 5, omag := g.d.extractLsb' 0 5 } := by
  simp (disch := decide) only [ctFields, gs_extractLsb']
  rfl

theorem rtpFields_payloadOf (g : RdsGroup) : rtpFields (payloadOf g) =
    { running := g.b.getLsbD 4
      tag0 := { ctype := g.b.extractLsb' 0 3 ++ g.c.extractLsb' 13 3, start := g.c.extractLsb' 7 6,
                len := g.c.extractLsb' 1 6 }
      tag1 := { ctype := g.c.extractLsb' 0 1 ++ g.d.extractLsb' 11 5, start := g.d.extractLsb' 5 6,
                len := (g.d.extractLsb' 0 5).setWidth 6 } } := by
  simp (disch := decide) only [rtpFields, gs_getLsbD, gs_extractLsb']
  rfl

/-- Settles O14: the common layout by definition, each group-specific one through the bits of B[4:0]. -/
theorem fieldsAreTheNamedBits : Obligations.FieldsAreTheNamedBits := by
  unfold Obligations.FieldsAreTheNamedBits
  exact fun g => ⟨⟨rfl, rfl⟩, ⟨rfl, rfl, rfl, rfl⟩, psFields_payloadOf g, rtFields2A_payloadOf g,
    rtFields2B_payloadOf g, ctFields_payloadOf g, rtpFields_payloadOf g⟩

/-! ### The decoders read only their layout (R91) -/

theorem psDecode_congr {x y : Payload} (h : psFields x = psFields y) (s : State) : psDecode x s = psDecode y s := by
  rw [psDecode_eq, psDecode_eq, h]

theorem ctDecode_congr {x y : Payload} (h : ctFields x = ctFields y) (s : State) : ctDecode x s = ctDecode y s := by
  rw [ctDecode, ctDecode, h]

theorem rtpDecode_congr {x y : Payload} (h : rtpFields x = rtpFields y) (s : State) :
    rtpDecode x s = rtpDecode y s := by
  rw [rtpDecode, rtpDecode, h]

/-- The common fields of R73 but `gs` lie in B[15:5]. -/
theorem commonFields_of_highBits {b b' : Word} (h : b.extractLsb' 5 11 = b'.extractLsb' 5 11) :
    typeOf b = typeOf b' ∧ versionOf b = versionOf b' ∧ tpOf b = tpOf b' ∧ ptyOf b = ptyOf b' := by
  have hbit (i : Nat) (hi : i < 11) : b.getLsbD (5 + i) = b'.getLsbD (5 + i) := by
    simpa [hi] using congrArg (BitVec.getLsbD · i) h
  refine ⟨BitVec.eq_of_getLsbD_eq fun i hi => ?type, hbit 6 (by decide), hbit 5 (by decide),
    BitVec.eq_of_getLsbD_eq fun i hi => ?pty⟩
  case type => simpa [typeOf, hi, ← Nat.add_assoc] using hbit (7 + i) (by omega)
  case pty => simpa [ptyOf, hi] using hbit i (by omega)

/-- Two groups with the same A and B[15:5] have the same pair and header, so they do the same when the decoder of their
pair does. -/
theorem exec_apply_congr {g h : RdsGroup} {s : State} (ha : g.a = h.a)
    (hb : g.b.extractLsb' 5 11 = h.b.extractLsb' 5 11)
    (hdecode : ∀ t, decodeCase (classify s.cfg (typeOf g.b) (versionOf g.b)) (payloadOf g) t =
      decodeCase (classify s.cfg (typeOf g.b) (versionOf g.b)) (payloadOf h) t) :
    exec (.apply g) s = exec (.apply h) s := by
  obtain ⟨htype, hversion, htp, hpty⟩ := commonFields_of_highBits hb
  rw [exec_apply, exec_apply, State.afterApply, State.afterApply, hdecode, htype, hversion, ha, htp, hpty]

/-- Settles O19: in each case of dispatch the two groups have the same fields. -/
theorem unreadBitsHaveNoEffect : Obligations.UnreadBitsHaveNoEffect := by
  unfold Obligations.UnreadBitsHaveNoEffect
  refine fun g h s ha hb => ⟨fun hcase hbAll hd => ?_, fun hcase hday hc hd => ?_,
    fun hcase hrunning hctype hc hd => ?_, fun hcase => ?_⟩ <;>
    refine exec_apply_congr ha hb fun t => ?_
  · have hps : psFields (payloadOf g) = psFields (payloadOf h) := by
      rw [psFields_payloadOf, psFields_payloadOf, hbAll, hd]
    have hrt : rtFields2B (payloadOf g) = rtFields2B (payloadOf h) := by
      rw [rtFields2B_payloadOf, rtFields2B_payloadOf, hbAll, hd]
    simp only [List.mem_cons, List.not_mem_nil, or_false] at hcase
    obtain hcase | hcase | hcase := hcase <;> rw [hcase]
    · exact psDecode_congr hps t
    · exact psDecode_congr hps t
    · exact congrArg (rtDecode · t) hrt
  · rw [hcase]
    refine ctDecode_congr ?_ t
    rw [ctFields_payloadOf, ctFields_payloadOf, hday, hc, hd]
  · rw [hcase]
    refine rtpDecode_congr ?_ t
    rw [rtpFields_payloadOf, rtpFields_payloadOf, hrunning, hctype, hc, hd]
  · rw [hcase]
    rfl

end Sys2Proof.Machine
end

section
/-! PROOF. The pseudo-requests (R88). An expansion computes each word as a number, a sum of operands at their places;
a field of the word is a quotient of that number by one power of two, taken modulo another. -/

namespace Sys2Proof.Machine

/-! ### The fields of a word given by its number -/

/-- A bit field of a number that has `v` at the field's place. -/
theorem extractLsb'_ofNat {w n start len v : Nat} (hfits : start + len ≤ w)
    (hplace : n / 2 ^ start % 2 ^ len = v % 2 ^ len) :
    (BitVec.ofNat w n).extractLsb' start len = BitVec.ofNat len v := by
  obtain ⟨k, rfl⟩ := Nat.exists_eq_add_of_le hfits
  refine BitVec.eq_of_toNat_eq ?_
  rw [BitVec.extractLsb'_toNat, BitVec.toNat_ofNat, BitVec.toNat_ofNat, Nat.shiftRight_eq_div_pow, ← hplace,
    Nat.add_assoc, Nat.pow_add, Nat.mod_mul_right_div_self, Nat.pow_add, Nat.mod_mul_right_mod]

theorem extractLsb'_wordOf {n start len v : Nat} (hfits : start + len ≤ 16)
    (hplace : n / 2 ^ start % 2 ^ len = v % 2 ^ len) :
    (wordOf n).extractLsb' start len = BitVec.ofNat len v :=
  extractLsb'_ofNat hfits hplace

theorem getLsbD_wordOf {n i v : Nat} (hi : i < 16) (hplace : n / 2 ^ i % 2 = v) :
    (wordOf n).getLsbD i = decide (v = 1) := by
  rw [wordOf, BitVec.getLsbD_ofNat, Nat.testBit_eq_decide_div_mod_eq, hplace, decide_eq_true hi, Bool.true_and]

/-- An operand split over two words: its upper part ends one word and its lower part stands in the next. -/
theorem splitField_wordOf {n n' m start len v : Nat} (hm : m ≤ 16) (hfits : start + len ≤ 16)
    (hupper : n % 2 ^ m = v / 2 ^ len % 2 ^ m) (hlower : n' / 2 ^ start % 2 ^ len = v % 2 ^ len) :
    (wordOf n).extractLsb' 0 m ++ (wordOf n').extractLsb' start len = BitVec.ofNat (m + len) v := by
  have hhi : (BitVec.ofNat (m + len) v).extractLsb' len m = BitVec.ofNat m (v / 2 ^ len) :=
    extractLsb'_ofNat (by omega) rfl
  have hlo : (BitVec.ofNat (m + len) v).extractLsb' 0 len = BitVec.ofNat len v := extractLsb'_ofNat (by omega) (by simp)
  rw [extractLsb'_wordOf (by omega) (by simpa using hupper), extractLsb'_wordOf hfits hlower, ← hhi, ← hlo,
    BitVec.extractLsb'_append_extractLsb']

theorem toNat_decide_eq_one {v : Nat} (h : v < 2) : (decide (v = 1)).toNat = v := by
  interval_cases v <;> rfl

/-- Two characters in a word (R76). -/
theorem chars_wordOf {x y : Nat} (hy : y < 256) :
    (wordOf ((x <<< 8) + y)).extractLsb' 8 8 = BitVec.ofNat 8 x ∧
    (wordOf ((x <<< 8) + y)).extractLsb' 0 8 = BitVec.ofNat 8 y :=
  ⟨extractLsb'_wordOf (by decide) (by omega), extractLsb'_wordOf (by decide) (by omega)⟩

/-! ### The common layout (R73) -/

theorem hdrOf_eq (tp pty : Nat) : hdrOf tp pty = tp * 1024 + pty * 32 := by
  rw [hdrOf, Nat.shiftLeft_eq, Nat.shiftLeft_eq]

/-- The pair and the header of a group whose A and block B hold them at the places of R73. -/
theorem header_of_numbers {g : RdsGroup} {pi b type version tp pty : Nat} (ha : g.a = wordOf pi)
    (hb : g.b = wordOf b) (hpi : pi < 65536) (htp : tp < 2) (hpty : pty < 32) (hversion : version < 2)
    (hplaces : b / 32 = type * 128 + version * 64 + tp * 32 + pty) :
    (typeOf g.b = BitVec.ofNat 4 type ∧ versionOf g.b = decide (version = 1)) ∧
    (payloadOf g).pi.toNat = pi ∧ (payloadOf g).tp.toNat = tp ∧ (payloadOf g).pty.toNat = pty := by
  have htypeOf : typeOf g.b = BitVec.ofNat 4 type := hb ▸ extractLsb'_wordOf (by decide) (by omega)
  have hversionOf : versionOf g.b = decide (version = 1) := hb ▸ getLsbD_wordOf (by decide) (by omega)
  have htpOf : tpOf g.b = decide (tp = 1) := hb ▸ getLsbD_wordOf (by decide) (by omega)
  have hptyOf : ptyOf g.b = BitVec.ofNat 5 pty := hb ▸ extractLsb'_wordOf (by decide) (by omega)
  refine ⟨⟨htypeOf, hversionOf⟩, ?_, ?_, ?_⟩
  · rw [payloadOf, ha, wordOf, BitVec.toNat_ofNat, Nat.mod_eq_of_lt hpi]
  · rw [payloadOf, htpOf, toNat_decide_eq_one htp]
  · rw [payloadOf, hptyOf, BitVec.toNat_ofNat, Nat.mod_eq_of_lt hpty]

/-- The row of such a group is that of the pair. -/
theorem decode_of_pair {g : RdsGroup} {type : BitVec 4} {version : Bit}
    (hpair : typeOf g.b = type ∧ versionOf g.b = version) :
    decode (.group g) = groupRow type version (payloadOf g) := by
  rw [decode_group, hpair.1, hpair.2]

/-! ### The group-specific layouts -/

/-- The layout of R77, for both versions. -/
theorem psFields_of_numbers {g : RdsGroup} {b ta ms di addr x y : Nat} (hb : g.b = wordOf b)
    (hd : g.d = wordOf ((x <<< 8) + y)) (hta : ta < 2) (hms : ms < 2) (hdi : di < 2) (haddr : addr < 4) (hy : y < 256)
    (hplaces : b % 32 = ta * 16 + ms * 8 + di * 4 + addr) :
    psFields (payloadOf g) =
      { ta := decide (ta = 1), ms := decide (ms = 1), di := decide (di = 1), addr := BitVec.ofNat 2 addr,
        c0 := BitVec.ofNat 8 x, c1 := BitVec.ofNat 8 y } := by
  obtain ⟨hc0, hc1⟩ := chars_wordOf (x := x) hy
  rw [psFields_payloadOf, hb, hd, PsFields.mk.injEq]
  exact ⟨getLsbD_wordOf (by decide) (by omega), getLsbD_wordOf (by decide) (by omega),
    getLsbD_wordOf (by decide) (by omega), extractLsb'_wordOf (by decide) (by omega), hc0, hc1⟩

/-- The flip flag and the address of R78, for both versions. -/
theorem rtPlace_of_number {b flip addr : Nat} (haddr : addr < 16) (hplaces : b % 32 = flip * 16 + addr) :
    (wordOf b).getLsbD 4 = decide (flip = 1) ∧ ((wordOf b).extractLsb' 0 4).toNat = addr := by
  have haddrOf : (wordOf b).extractLsb' 0 4 = BitVec.ofNat 4 addr := extractLsb'_wordOf (by decide) (by omega)
  refine ⟨getLsbD_wordOf (by decide) (by omega), ?_⟩
  rw [haddrOf, BitVec.toNat_ofNat, Nat.mod_eq_of_lt haddr]

theorem rtFields2A_of_numbers {g : RdsGroup} {b flip addr c0 c1 c2 c3 : Nat} (hb : g.b = wordOf b)
    (hc : g.c = wordOf ((c0 <<< 8) + c1)) (hd : g.d = wordOf ((c2 <<< 8) + c3)) (haddr : addr < 16) (hc1 : c1 < 256)
    (hc3 : c3 < 256) (hplaces : b % 32 = flip * 16 + addr) :
    rtFields2A (payloadOf g) =
      { flip := decide (flip = 1), off := 4 * addr,
        seg := [BitVec.ofNat 8 c0, BitVec.ofNat 8 c1, BitVec.ofNat 8 c2, BitVec.ofNat 8 c3] } := by
  obtain ⟨hflipOf, haddrOf⟩ := rtPlace_of_number haddr hplaces
  obtain ⟨hc0Of, hc1Of⟩ := chars_wordOf (x := c0) hc1
  obtain ⟨hc2Of, hc3Of⟩ := chars_wordOf (x := c2) hc3
  rw [rtFields2A_payloadOf, hb, hc, hd, hflipOf, haddrOf, hc0Of, hc1Of, hc2Of, hc3Of]

theorem rtFields2B_of_numbers {g : RdsGroup} {b flip addr c0 c1 : Nat} (hb : g.b = wordOf b)
    (hd : g.d = wordOf ((c0 <<< 8) + c1)) (haddr : addr < 16) (hc1 : c1 < 256)
    (hplaces : b % 32 = flip * 16 + addr) :
    rtFields2B (payloadOf g) =
      { flip := decide (flip = 1), off := 2 * addr, seg := [BitVec.ofNat 8 c0, BitVec.ofNat 8 c1] } := by
  obtain ⟨hflipOf, haddrOf⟩ := rtPlace_of_number haddr hplaces
  obtain ⟨hc0Of, hc1Of⟩ := chars_wordOf (x := c0) hc1
  rw [rtFields2B_payloadOf, hb, hd, hflipOf, haddrOf, hc0Of, hc1Of]

/-- The layout of R80. -/
theorem ctFields_of_numbers {g : RdsGroup} {b mjd hour minute osign omag : Nat} (hb : g.b = wordOf b)
    (hc : g.c = wordOf (((mjd &&& 0x7FFF) <<< 1) + (hour >>> 4)))
    (hd : g.d = wordOf (((hour &&& 0xF) <<< 12) + (minute <<< 6) + (osign <<< 5) + omag))
    (hhour : hour < 32) (hminute : minute < 64) (hosign : osign < 2) (homag : omag < 32)
    (hplaces : b % 4 = mjd / 0x8000 % 4) :
    ctFields (payloadOf g) =
      { mjd := BitVec.ofNat 17 mjd, hour := BitVec.ofNat 5 hour, minute := BitVec.ofNat 6 minute,
        osign := decide (osign = 1), omag := BitVec.ofNat 5 omag } := by
  have hmjdLow : mjd &&& 0x7FFF = mjd % 0x8000 := Nat.and_two_pow_sub_one_eq_mod mjd 15
  have hhourLow : hour &&& 0xF = hour % 0x10 := Nat.and_two_pow_sub_one_eq_mod hour 4
  rw [ctFields_payloadOf, hb, hc, hd, CtFields.mk.injEq]
  exact ⟨splitField_wordOf (by decide) (by decide) (by omega) (by omega),
    splitField_wordOf (by decide) (by decide) (by omega) (by omega), extractLsb'_wordOf (by decide) (by omega),
    getLsbD_wordOf (by decide) (by omega), extractLsb'_wordOf (by decide) (by omega)⟩

/-- The layout of R82. -/
theorem rtpFields_of_numbers {g : RdsGroup} {b run ct1 s1 l1 ct2 s2 l2 : Nat} (hb : g.b = wordOf b)
    (hc : g.c = wordOf (((ct1 &&& 7) <<< 13) + (s1 <<< 7) + (l1 <<< 1) + (ct2 >>> 5)))
    (hd : g.d = wordOf (((ct2 &&& 0x1F) <<< 11) + (s2 <<< 5) + l2))
    (hct1 : ct1 < 64) (hs1 : s1 < 64) (hl1 : l1 < 64) (hct2 : ct2 < 64) (hs2 : s2 < 64) (hl2 : l2 < 32)
    (hplaces : b % 32 = run * 16 + ct1 / 8) :
    rtpFields (payloadOf g) =
      { running := decide (run = 1)
        tag0 := { ctype := BitVec.ofNat 6 ct1, start := BitVec.ofNat 6 s1, len := BitVec.ofNat 6 l1 }
        tag1 := { ctype := BitVec.ofNat 6 ct2, start := BitVec.ofNat 6 s2, len := BitVec.ofNat 6 l2 } } := by
  have hct1Low : ct1 &&& 7 = ct1 % 8 := Nat.and_two_pow_sub_one_eq_mod ct1 3
  have hct2Low : ct2 &&& 0x1F = ct2 % 0x20 := Nat.and_two_pow_sub_one_eq_mod ct2 5
  have hlen1 : (wordOf (((ct2 &&& 0x1F) <<< 11) + (s2 <<< 5) + l2)).extractLsb' 0 5 = BitVec.ofNat 5 l2 :=
    extractLsb'_wordOf (by decide) (by omega)
  rw [rtpFields_payloadOf, hb, hc, hd, hlen1, BitVec.setWidth_ofNat_of_le_of_lt (by decide) hl2, RtpFields.mk.injEq,
    Tag.mk.injEq, Tag.mk.injEq]
  exact ⟨getLsbD_wordOf (by decide) (by omega),
    ⟨splitField_wordOf (by decide) (by decide) (by omega) (by omega),
      extractLsb'_wordOf (by decide) (by omega), extractLsb'_wordOf (by decide) (by omega)⟩,
    splitField_wordOf (by decide) (by decide) (by omega) (by omega),
    extractLsb'_wordOf (by decide) (by omega), rfl⟩

/-- Settles O13: the numbers of each expansion hold the operands at the places of its layout. -/
theorem pseudoRequestsCarryTheirOperands : Obligations.PseudoRequestsCarryTheirOperands := by
  unfold Obligations.PseudoRequestsCarryTheirOperands
  intro k p _ hp g x
  cases p <;> simp only [Pseudo.wf, headerRanges, Bool.and_eq_true, decide_eq_true_eq, and_assoc] at hp
  case ps0A pi tp pty ta ms di addr c0 c1 =>
    obtain ⟨hpi, htp, hpty, hta, hms, hdi, haddr, -, hc1⟩ := hp
    have hhdr := hdrOf_eq tp pty
    obtain ⟨hpair, hpiOf, htpOf, hptyOf⟩ :=
      header_of_numbers (g := g) (type := 0) (version := 0) rfl rfl hpi htp hpty (by decide) (by omega)
    have hfields := psFields_of_numbers (g := g) rfl rfl hta hms hdi haddr hc1 (by omega)
    exact ⟨decode_of_pair hpair, hpiOf, htpOf, hptyOf, rfl, hfields⟩
  case ps0B pi tp pty ta ms di addr c0 c1 =>
    obtain ⟨hpi, htp, hpty, hta, hms, hdi, haddr, -, hc1⟩ := hp
    have hhdr := hdrOf_eq tp pty
    obtain ⟨hpair, hpiOf, htpOf, hptyOf⟩ :=
      header_of_numbers (g := g) (type := 0) (version := 1) rfl rfl hpi htp hpty (by decide) (by omega)
    have hfields := psFields_of_numbers (g := g) rfl rfl hta hms hdi haddr hc1 (by omega)
    exact ⟨decode_of_pair hpair, hpiOf, htpOf, hptyOf, rfl, hfields⟩
  case rt2A pi tp pty flip addr c0 c1 c2 c3 =>
    obtain ⟨hpi, htp, hpty, hflip, haddr, -, hc1, -, hc3⟩ := hp
    have hhdr := hdrOf_eq tp pty
    obtain ⟨hpair, hpiOf, htpOf, hptyOf⟩ :=
      header_of_numbers (g := g) (type := 2) (version := 0) rfl rfl hpi htp hpty (by decide) (by omega)
    have hfields := rtFields2A_of_numbers (g := g) (flip := flip) rfl rfl rfl haddr hc1 hc3 (by omega)
    exact ⟨decode_of_pair hpair, hpiOf, htpOf, hptyOf, hfields⟩
  case rt2B pi tp pty flip addr c0 c1 =>
    obtain ⟨hpi, htp, hpty, hflip, haddr, -, hc1⟩ := hp
    have hhdr := hdrOf_eq tp pty
    obtain ⟨hpair, hpiOf, htpOf, hptyOf⟩ :=
      header_of_numbers (g := g) (type := 2) (version := 1) rfl rfl hpi htp hpty (by decide) (by omega)
    have hfields := rtFields2B_of_numbers (g := g) (flip := flip) rfl rfl haddr hc1 (by omega)
    exact ⟨decode_of_pair hpair, hpiOf, htpOf, hptyOf, rfl, hfields⟩
  case ct4A pi tp pty mjd hour minute osign omag =>
    obtain ⟨hpi, htp, hpty, hmjd, hhour, hminute, hosign, homag⟩ := hp
    have hhdr := hdrOf_eq tp pty
    obtain ⟨hpair, hpiOf, htpOf, hptyOf⟩ :=
      header_of_numbers (g := g) (type := 4) (version := 0) rfl rfl hpi htp hpty (by decide) (by omega)
    have hfields := ctFields_of_numbers (g := g) rfl rfl rfl hhour hminute hosign homag (by omega)
    exact ⟨decode_of_pair hpair, hpiOf, htpOf, hptyOf, hfields⟩
  case rtp pi tp pty run ct1 s1 l1 ct2 s2 l2 =>
    obtain ⟨hpi, htp, hpty, hrun, hct1, hs1, hl1, hct2, hs2, hl2⟩ := hp
    have hhdr := hdrOf_eq tp pty
    obtain ⟨⟨htype, hversion⟩, hpiOf, htpOf, hptyOf⟩ :=
      header_of_numbers (g := g) (type := k.rtpType.toNat) (version := k.rtpVersion.toNat) rfl rfl hpi htp hpty
        (Bool.toNat_lt _) (by omega)
    have hfields := rtpFields_of_numbers (g := g) (run := run) rfl rfl rfl hct1 hs1 hl1 hct2 hs2 hl2 (by omega)
    refine ⟨htype.trans ?_, hversion.trans ?_, hpiOf, htpOf, hptyOf, hfields⟩
    · rw [BitVec.ofNat_toNat, BitVec.setWidth_eq]
    · cases k.rtpVersion <;> rfl

end Sys2Proof.Machine
end

section
/-! PROOF. The classifier (R100 to R104): an APPLY is the row of its pair, and every group replaces the header before
anything else and leaves it so. -/

namespace Sys2Proof.Machine

/-! ### One row for one pair (R100, R102) -/

theorem exec_of_mem_openRows (x : Payload) (s : State) :
    ∀ r ∈ openRows, exec (r.2.2 x) s = .next (openPair r.1 r.2.1 x s) := by
  simp only [openRows, List.forall_mem_cons, List.not_mem_nil, false_imp_iff, implies_true, and_true]
  and_intros <;> rfl

/-- The effect of an instruction's row is what the row itself does: R100's tests and the opcode map (R83) name one
decoder. -/
theorem RowEffect.exec_rowInstr {i : Instr} {f : State → State} (hf : RowEffect i f) (s : State) :
    exec (rowInstr i) s = .next (f s) := by
  cases hf with
  | ps hmk hrow => rw [hrow]; exact exec_of_mem_psRows _ s _ hmk
  | rt hr hrow => rw [hrow]; exact exec_of_mem_rtRows _ s _ hr
  | ct hrow => rw [hrow]; rfl
  | openRow hr hrow => rw [hrow]; exact exec_of_mem_openRows _ s _ hr
  | reset heq | idle heq | read heq => rw [heq]; rfl

theorem exec_apply_eq_exec_decode (g : RdsGroup) (s : State) : exec (.apply g) s = exec (decode (.group g)) s := by
  obtain ⟨f, hf, hexec⟩ := apply_effect g
  calc exec (.apply g) s
      = .next (f s) := hexec s
    _ = exec (rowInstr (.apply g)) s := (hf.exec_rowInstr s).symm
    _ = exec (decode (.group g)) s := rfl

/-- Settles O16: an APPLY has the effect of its row (`apply_effect`), and so has the row. -/
theorem applyRunsTheRowOfItsPair : Obligations.ApplyRunsTheRowOfItsPair := by
  unfold Obligations.ApplyRunsTheRowOfItsPair
  exact exec_apply_eq_exec_decode

/-! ### The header (R101, R103, R104) -/

theorem decodeCase_header (k : GroupCase) (x : Payload) (s : State) :
    (decodeCase k x s).committed.header = s.committed.header := by
  cases k with
  | ps0A | ps0B => rw [decodeCase, psDecode_committed]
  | rt2A | rt2B => rw [decodeCase, rtDecode_committed]
  | ct4A => rw [decodeCase, ctDecode_committed]
  | rtPlus => rw [decodeCase, rtpDecode_committed]
  | unsupported => rfl

/-- Settles O17: no decoder writes the header after its commit, and an APPLY keeps the interface. -/
theorem everyApplyCommitsItsHeader : Obligations.EveryApplyCommitsItsHeader := by
  unfold Obligations.EveryApplyCommitsItsHeader
  intro g s
  have hheader : (s.afterApply g).committed.header = { pi := g.a, tp := tpOf g.b, pty := ptyOf g.b } :=
    decodeCase_header _ _ _
  refine ⟨s.afterApply g, exec_apply g s, ?_⟩
  rw [hheader]
  exact ⟨rfl, rfl, rfl, afterApply_sameInterface s g⟩

/-- Settles O18: an open row under a configuration that does not make it RT+ stops after its header. -/
theorem unsupportedRowsCommitOnlyTheHeader : Obligations.UnsupportedRowsCommitOnlyTheHeader := by
  unfold Obligations.UnsupportedRowsCommitOnlyTheHeader
  intro r hr x s hrtp
  have hnotRunning : ¬ (s.cfg.isRtp r.1 r.2.1 = true ∧ x.gs.getLsbD 4 = true) := by simp [hrtp]
  rw [exec_of_mem_openRows x s r hr, openPair_of_not_running hnotRunning]
  rfl

/-- The header commit comes first and replaces the earlier header whole. -/
theorem exec_apply_earlierHeader (g : RdsGroup) (s : State) (h : Header) :
    exec (.apply g) { s with committed := { s.committed with header := h } } = exec (.apply g) s := rfl

/-- Settles O20: a GROUP row is the APPLY of the group that encodes it. -/
theorem earlierHeadersHaveNoEffect : Obligations.EarlierHeadersHaveNoEffect := by
  unfold Obligations.EarlierHeadersHaveNoEffect
  rintro i s h (⟨g, rfl⟩ | ⟨g, hencode⟩)
  · exact exec_apply_earlierHeader g s h
  · have hrow : i = decode (.group g) := by rw [← hencode, decode_encode]
    rw [hrow, ← exec_apply_eq_exec_decode, ← exec_apply_eq_exec_decode, exec_apply_earlierHeader]

end Sys2Proof.Machine
end

section
/-! PROOF. The program-service name (R111 to R118): the scratch holds, slot by slot, the last segment of each address, and
address 3 commits it. -/

namespace Sys2Proof.Machine

/-! ### One group -/

/-- A type-0 group writes its two characters side by side, also at address 3, whose commit leaves the scratch (R112). -/
theorem psDecode_scratch_ps (x : Payload) (s : State) :
    (psDecode x s).scratch.ps = putByte (putByte s.scratch.ps (2 * (psFields x).addr.toNat) (psFields x).c0)
      (2 * (psFields x).addr.toNat + 1) (psFields x).c1 := by
  rw [psDecode_eq, commitAtThree_eq]
  split <;> rfl

theorem psDecode_scratch_di (x : Payload) (s : State) :
    (psDecode x s).scratch.di = setDiBit s.scratch.di (3 - (psFields x).addr.toNat) (psFields x).di := by
  rw [psDecode_eq, commitAtThree_eq]
  split <;> rfl

theorem byteAt_psDecode_scratch (x : Payload) (s : State) (i : Nat) :
    byteAt (psDecode x s).scratch.ps i =
      if i = 2 * (psFields x).addr.toNat then (psFields x).c0
      else if i = 2 * (psFields x).addr.toNat + 1 then (psFields x).c1
      else byteAt s.scratch.ps i := by
  have hfirst : 2 * (psFields x).addr.toNat < 8 := by omega
  have hsecond : 2 * (psFields x).addr.toNat + 1 < 8 := by omega
  simp only [psDecode_scratch_ps, byteAt_putByte, hfirst, hsecond, and_true]
  apply ite_ite_comm
  omega

theorem getLsbD_psDecode_scratch (x : Payload) (s : State) {i : Nat} (hi : i < 4) :
    (psDecode x s).scratch.di.getLsbD i =
      if i = 3 - (psFields x).addr.toNat then (psFields x).di else s.scratch.di.getLsbD i := by
  rw [psDecode_scratch_di, getLsbD_setDiBit _ _ _ _ (by omega) hi]

/-- Settles O21, from what `psDecode` leaves in each slot of the scratch and in the committed registers. -/
theorem psGroupResult : Obligations.PsGroupResult := by
  unfold Obligations.PsGroupResult
  intro mk hmk x s f addr
  have hcommitted := psDecode_committed x (s.header x)
  have hthree : addr = 3 ↔ f.addr = 3 := BitVec.toNat_inj (y := 3#2)
  refine ⟨psDecode x (s.header x), exec_of_mem_psRows x s mk hmk, ?_, ?_, fun i _ => ?_, fun i hi => ?_, ?_⟩
  · rw [hcommitted]; rfl
  · rw [hcommitted]
  · exact byteAt_psDecode_scratch x (s.header x) i
  · exact getLsbD_psDecode_scratch x (s.header x) hi
  · rw [hcommitted]
    exact if_congr hthree.symm rfl rfl

/-- Settles O24: at address 3 the commit takes the slots that the group does not carry from the zero scratch. -/
theorem loneAddressThreeCommitsZeros : Obligations.LoneAddressThreeCommitsZeros := by
  unfold Obligations.LoneAddressThreeCommitsZeros
  intro mk hmk x s hthree hzero hdiZero
  obtain ⟨t, hexec, -, -, hps, hdi, hname⟩ := psGroupResult mk hmk x s
  have haddr : (psFields x).addr.toNat = 3 := congrArg BitVec.toNat hthree
  rw [haddr] at hps hdi hname
  rw [if_pos rfl] at hname
  refine ⟨t, hexec, ?_⟩
  rw [hname]
  refine ⟨rfl, fun i hi => ?_, hps 6 (by omega), hps 7 (by omega), fun i hi => ?_, hdi 0 (by omega)⟩
  · calc byteAt t.scratch.ps i
        = byteAt s.scratch.ps i := by rw [hps i (by omega), if_neg (by omega), if_neg (by omega)]
      _ = 0x00 := hzero i (by omega)
  · by_cases hfour : i < 4
    · rw [hdi i hfour, if_neg (by omega), hdiZero]
      exact BitVec.getLsbD_zero
    · exact BitVec.getLsbD_of_ge _ i (by omega)

/-! ### A window of groups -/

/-- What the scratch holds for one address: its two characters and its DI bit (R112). -/
def Scratch.psSlot (r : Scratch) (a : BitVec 2) : Byte × Byte × Bit :=
  (byteAt r.ps (2 * a.toNat), byteAt r.ps (2 * a.toNat + 1), r.di.getLsbD (3 - a.toNat))

/-- The slots of the four addresses are the whole of the name's scratch. -/
theorem Scratch.name_eq_of_psSlot {r q : Scratch} (h : ∀ a, r.psSlot a = q.psSlot a) : r.ps = q.ps ∧ r.di = q.di := by
  simp only [Scratch.psSlot, Prod.mk.injEq] at h
  constructor
  · refine vector_ext_byteAt fun i hi => ?_
    obtain ⟨a, rfl | rfl⟩ : ∃ a : BitVec 2, i = 2 * a.toNat ∨ i = 2 * a.toNat + 1 :=
      ⟨BitVec.ofNat 2 (i / 2), by rw [BitVec.toNat_ofNat]; omega⟩
    · obtain ⟨hfirst, -, -⟩ := h a
      exact hfirst
    · obtain ⟨-, hsecond, -⟩ := h a
      exact hsecond
  · refine BitVec.eq_of_getLsbD_eq fun i hi => ?_
    obtain ⟨a, rfl⟩ : ∃ a : BitVec 2, i = 3 - a.toNat :=
      ⟨BitVec.ofNat 2 (3 - i), by rw [BitVec.toNat_ofNat]; omega⟩
    obtain ⟨-, -, hdi⟩ := h a
    exact hdi

/-- A type-0 group fills the slot of its address and leaves the other three (R112). -/
theorem psDecode_psSlot (x : Payload) (s : State) (a : BitVec 2) :
    (psDecode x s).scratch.psSlot a =
      if (psFields x).addr = a then ((psFields x).c0, (psFields x).c1, (psFields x).di) else s.scratch.psSlot a := by
  simp only [Scratch.psSlot, byteAt_psDecode_scratch, getLsbD_psDecode_scratch x s (show 3 - a.toNat < 4 by omega)]
  by_cases h : (psFields x).addr = a
  · simp [h]
  · have hne : a.toNat ≠ (psFields x).addr.toNat := fun e => h (BitVec.eq_of_toNat_eq e.symm)
    rw [if_neg (by omega), if_neg (by omega), if_neg (by omega), if_neg (by omega), if_neg (by omega), if_neg h]

/-- A 0B group where the bit is set, and a 0A group otherwise. -/
def psRow (p : Bit × Payload) : Instr := if p.1 then .grp0B p.2 else .grp0A p.2

/-- The last segment and DI bit that a sequence of type-0 groups delivers for an address. -/
def lastSegment (l : List (Bit × Payload)) (a : BitVec 2) : Option (Word × Bit) :=
  ((l.filter fun p => (psFields p.2).addr == a).getLast?).map fun p => (p.2.d, (psFields p.2).di)

/-- The state after a sequence of type-0 groups. -/
def State.afterPsGroups (s : State) (l : List (Bit × Payload)) : State :=
  l.foldl (fun t p => psDecode p.2 (t.header p.2)) s

theorem State.afterPsGroups_concat (s : State) (l : List (Bit × Payload)) (p : Bit × Payload) :
    s.afterPsGroups (l ++ [p]) = psDecode p.2 ((s.afterPsGroups l).header p.2) := by
  simp [State.afterPsGroups]

theorem exec_psRow (p : Bit × Payload) (s : State) : exec (psRow p) s = .next (psDecode p.2 (s.header p.2)) := by
  obtain ⟨version, x⟩ := p
  cases version <;> rfl

theorem runInstrs_psRows (l : List (Bit × Payload)) (s : State) :
    runInstrs (l.map psRow) s = .next (s.afterPsGroups l) := by
  induction l generalizing s with
  | nil => rfl
  | cons p l ih => rw [List.map_cons, runInstrs, exec_psRow]; exact ih _

theorem lastSegment_concat (l : List (Bit × Payload)) (p : Bit × Payload) (a : BitVec 2) :
    lastSegment (l ++ [p]) a = if (psFields p.2).addr = a then some (p.2.d, (psFields p.2).di) else lastSegment l a := by
  rw [lastSegment, List.filter_append]
  split
  case isTrue h => simp [h]
  case isFalse h => simp [h, lastSegment]

/-- After a sequence of groups the slot of an address holds the last segment delivered for it, and its old contents if
there was none. -/
theorem afterPsGroups_psSlot (s : State) (l : List (Bit × Payload)) (a : BitVec 2) :
    (s.afterPsGroups l).scratch.psSlot a =
      (lastSegment l a).elim (s.scratch.psSlot a) fun q => (firstChar q.1, secondChar q.1, q.2) := by
  induction l using List.reverseRecOn with
  | nil => rfl
  | append_singleton l p ih =>
    rw [State.afterPsGroups_concat, psDecode_psSlot, lastSegment_concat, header_scratch, ih]
    split <;> rfl

/-- The name that an address-3 group at the end of a sequence commits is the scratch of the whole sequence (R113). -/
theorem afterPsGroups_concat_name (s : State) (l : List (Bit × Payload)) {z : Bit × Payload}
    (hz : (psFields z.2).addr = 3) :
    (s.afterPsGroups (l ++ [z])).committed.name =
      { ps := (s.afterPsGroups (l ++ [z])).scratch.ps, di := (s.afterPsGroups (l ++ [z])).scratch.di,
        valid := true } := by
  rw [State.afterPsGroups_concat, psDecode_committed, hz]
  rfl

/-- Settles O23: the scratch after a sequence depends on nothing but its last segments (`afterPsGroups_psSlot`), so the
order in which the addresses came does not matter. -/
theorem psWindowIsOrderIndependent : Obligations.PsWindowIsOrderIndependent := by
  unfold Obligations.PsWindowIsOrderIndependent
  intro s xs ys z row addr last _ _ hz hlast
  have hrun (l : List (Bit × Payload)) : runInstrs (l.map row ++ [row z]) s = .next (s.afterPsGroups (l ++ [z])) := by
    rw [← runInstrs_psRows, List.map_append]
    rfl
  have hslots (a : BitVec 2) :
      (s.afterPsGroups (xs ++ [z])).scratch.psSlot a = (s.afterPsGroups (ys ++ [z])).scratch.psSlot a := by
    have hsame : lastSegment xs a = lastSegment ys a := hlast a
    rw [afterPsGroups_psSlot, afterPsGroups_psSlot, lastSegment_concat, lastSegment_concat, hsame]
  obtain ⟨hps, hdi⟩ := Scratch.name_eq_of_psSlot hslots
  refine ⟨_, _, hrun xs, hrun ys, ?_⟩
  rw [afterPsGroups_concat_name s xs hz, afterPsGroups_concat_name s ys hz, hps, hdi]

end Sys2Proof.Machine
end

section
/-! PROOF. The radiotext (R123 to R130): what one type-2 row writes into the scratch byte by byte, what it commits, and
two rows in a row. -/

namespace Sys2Proof.Machine

/-! ### The scratch after one group (R123) -/

theorem rtDecode_scratch_rt (f : RtFields) (s : State) :
    (rtDecode f s).scratch.rt = (scanSegment f.seg f.off s.scratch.rt).1 := by
  obtain ⟨-, h⟩ | ⟨-, h⟩ := rtDecode_cases f s <;> rw [h] <;> rfl

theorem byteAt_rtDecode_scratch {f : RtFields} (hinside : f.off + f.seg.length ≤ 64) (s : State) (p : Nat) :
    byteAt (rtDecode f s).scratch.rt p =
      if f.off ≤ p ∧ p < f.off + f.seg.length ∧ (0x0D : Byte) ∉ f.seg.take (p - f.off) then
        (if f.seg[p - f.off]? = some 0x0D then 0x00 else (f.seg[p - f.off]?).getD 0x00)
      else byteAt s.scratch.rt p := by
  rw [rtDecode_scratch_rt]
  exact scanSegment_byte f.seg f.off p s.scratch.rt hinside

/-- A row leaves every byte outside its segment alone, also when it completes the message. -/
theorem byteAt_rtDecode_scratch_of_outside {f : RtFields} (hinside : f.off + f.seg.length ≤ 64) (s : State) {p : Nat}
    (hp : p < f.off ∨ f.off + f.seg.length ≤ p) :
    byteAt (rtDecode f s).scratch.rt p = byteAt s.scratch.rt p := by
  rw [byteAt_rtDecode_scratch hinside, if_neg]
  rintro ⟨hfirst, hlast, -⟩
  omega

/-- Without a carriage return the whole segment is written. -/
theorem byteAt_rtDecode_scratch_of_no_return {f : RtFields} (hinside : f.off + f.seg.length ≤ 64)
    (hreturn : (0x0D : Byte) ∉ f.seg) (s : State) {i : Nat} (hi : i < f.seg.length) :
    byteAt (rtDecode f s).scratch.rt (f.off + i) = (f.seg[i]?).getD 0x00 := by
  rw [byteAt_rtDecode_scratch hinside, Nat.add_sub_cancel_left, if_pos, if_neg]
  · exact fun h => hreturn (List.mem_of_getElem? h)
  · exact ⟨Nat.le_add_right _ _, Nat.add_lt_add_left hi _, fun h => hreturn (List.mem_of_mem_take h)⟩

/-! ### The commit after one group (R124, R125) -/

theorem rtRows_seg_ne_nil (x : Payload) : ∀ r ∈ rtRows, (r.2 x).seg ≠ [] := by
  simp only [rtRows, List.forall_mem_cons, List.not_mem_nil, false_imp_iff, implies_true, and_true]
  exact ⟨List.cons_ne_nil _ _, List.cons_ne_nil _ _⟩

theorem scanSegment_of_completes {f : RtFields} (hinside : f.off + f.seg.length ≤ 64) (hseg : f.seg ≠ [])
    (h : f.completes) (buf : Vector Byte 64) : (scanSegment f.seg f.off buf).2 = true :=
  (scanSegment_done _ _ _ hinside).mpr (h.imp_right fun hlength => ⟨hseg, hlength⟩)

/-- A row that completes the message commits the scratch it leaves into the variant of its flip flag, and keeps the other
variant. -/
theorem rtRow_text_of_completes {r : (Payload → Instr) × (Payload → RtFields)} (hr : r ∈ rtRows) (x : Payload)
    (h : (r.2 x).completes) (s : State) :
    let t := rtDecode (r.2 x) s
    t.committed.text.bank (r.2 x).flip = t.scratch.rt ∧ t.committed.text.validOf (r.2 x).flip = true ∧
      t.committed.text.flag = (r.2 x).flip ∧
      t.committed.text.bank (!(r.2 x).flip) = s.committed.text.bank (!(r.2 x).flip) ∧
      t.committed.text.validOf (!(r.2 x).flip) = s.committed.text.validOf (!(r.2 x).flip) := by
  have hdone := scanSegment_of_completes (rtRows_inside x r hr) (rtRows_seg_ne_nil x r hr) h
  obtain ⟨-, heq⟩ | ⟨hnot, -⟩ := rtDecode_cases (r.2 x) s
  · simp [heq]
  · exact absurd (hnot.symm.trans (hdone _)) Bool.false_ne_true

/-- A row that does not complete the message keeps the committed radiotext. -/
theorem rtRow_text_of_not_completes {r : (Payload → Instr) × (Payload → RtFields)} (hr : r ∈ rtRows) (x : Payload)
    (h : ¬ (r.2 x).completes) (s : State) : (rtDecode (r.2 x) s).committed.text = s.committed.text := by
  rw [rtDecode_committed_of_not_completes (rtRows_inside x r hr) h]

/-! ### Where a segment ends -/

/-- A 2A segment reaches position 63 at address 15 alone (R124). -/
theorem rtFields2A_end_iff (x : Payload) :
    (rtFields2A x).off + (rtFields2A x).seg.length = 64 ↔ rtAddrOf x = 15 := by
  have hend : (rtFields2A x).off + (rtFields2A x).seg.length = 4 * (rtAddrOf x).toNat + 4 := rfl
  have hlast : (15 : BitVec 4).toNat = 15 := rfl
  rw [hend, ← BitVec.toNat_inj, hlast]
  omega

/-- A 2B segment never reaches position 63, so it completes by a carriage return alone (R128). -/
theorem rtFields2B_completes_iff (x : Payload) : (rtFields2B x).completes ↔ (0x0D : Byte) ∈ (rtFields2B x).seg := by
  have hinside := rtFields2B_inside x
  exact or_iff_left (by omega)

/-! ### The obligations -/

/-- Settles O25, from the bytes of the scratch and the commit of a completing row. -/
theorem rtGroupResult : Obligations.RtGroupResult := by
  unfold Obligations.RtGroupResult
  refine ⟨fun r hr x s => ?_, fun x => ⟨rtFields2A_end_iff x, rtFields2B_inside x⟩⟩
  refine ⟨rtDecode (r.2 x) (s.header x), exec_of_mem_rtRows x s r hr, ?_, ?_,
    fun p _ => byteAt_rtDecode_scratch (rtRows_inside x r hr) (s.header x) p, ?_⟩
  · rw [rtDecode_committed]
    rfl
  · rw [rtDecode_scratch]
  · split
    case isTrue h => exact rtRow_text_of_completes hr x h (s.header x)
    case isFalse h => exact rtRow_text_of_not_completes hr x h (s.header x)

/-- Settles O26: a 2B segment ends at position 31 at most, and the commit takes the whole scratch. -/
theorem versionBKeepsTheUpperHalf : Obligations.VersionBKeepsTheUpperHalf := by
  unfold Obligations.VersionBKeepsTheUpperHalf
  intro x s
  have hr : (Instr.grp2B, rtFields2B) ∈ rtRows := by simp [rtRows]
  have hinside := rtFields2B_inside x
  have hupper (p : Nat) (hp : 32 ≤ p) :
      byteAt (rtDecode (rtFields2B x) (s.header x)).scratch.rt p = byteAt s.scratch.rt p :=
    byteAt_rtDecode_scratch_of_outside (by omega) (s.header x) (.inr (by omega))
  refine ⟨rtDecode (rtFields2B x) (s.header x), rfl, hupper, fun hreturn => ?_, fun hreturn p hp => ?_⟩
  · exact rtRow_text_of_not_completes hr x (mt (rtFields2B_completes_iff x).mp hreturn) (s.header x)
  · obtain ⟨hbank, -⟩ := rtRow_text_of_completes hr x (.inl hreturn) (s.header x)
    exact (congrArg (byteAt · p) hbank).trans (hupper p hp)

theorem runInstrs_rtRow_pair {r q : (Payload → Instr) × (Payload → RtFields)} (hr : r ∈ rtRows) (hq : q ∈ rtRows)
    (x y : Payload) (s : State) :
    runInstrs [r.1 x, q.1 y] s =
      .next (rtDecode (q.2 y) ((rtDecode (r.2 x) (s.header x)).header y)) := by
  rw [runInstrs, exec_of_mem_rtRows x s r hr]
  dsimp only
  rw [runInstrs, exec_of_mem_rtRows y _ q hq]
  rfl

/-- Settles O28: the first group leaves its characters in the scratch and commits nothing; the second commits the scratch,
which holds them where its own segment does not lie. -/
theorem completingGroupNamesTheVariant : Obligations.CompletingGroupNamesTheVariant := by
  unfold Obligations.CompletingGroupNamesTheVariant
  intro r hr q hq x y s f g hreturn hlength hcompletes
  let u := rtDecode f (s.header x)
  have hkeep : u.committed.text = s.committed.text :=
    rtRow_text_of_not_completes hr x (not_completes hreturn hlength) (s.header x)
  obtain ⟨hbank, hvalid, hflag, hother, -⟩ := rtRow_text_of_completes hq y (.inl hcompletes) (u.header y)
  refine ⟨rtDecode g (u.header y), runInstrs_rtRow_pair hr hq x y s, hvalid, hflag, hbank,
    hother.trans (congrArg (·.bank (!g.flip)) hkeep), fun hdisjoint i hi => ?_⟩
  calc byteAt ((rtDecode g (u.header y)).committed.text.bank g.flip) (f.off + i)
      = byteAt (rtDecode g (u.header y)).scratch.rt (f.off + i) := congrArg (byteAt · (f.off + i)) hbank
    _ = byteAt u.scratch.rt (f.off + i) :=
        byteAt_rtDecode_scratch_of_outside (f := g) (rtRows_inside y q hq) (u.header y) (by omega)
    _ = (f.seg[i]?).getD 0x00 :=
        byteAt_rtDecode_scratch_of_no_return (rtRows_inside x r hr) hreturn (s.header x) hi

end Sys2Proof.Machine
end

section
/-! PROOF. The clock-time row (R136, R137, R139): what a 4A group commits, and its frame. -/

namespace Sys2Proof.Machine

theorem exec_grp4A (x : Payload) (s : State) : exec (.grp4A x) s = .next (ctDecode x (s.header x)) := rfl

/-- Settles O29: an accepted sample commits `clockOf` on the state after the header commit, a rejected one nothing. -/
theorem clockGroupResult : Obligations.ClockGroupResult := by
  unfold Obligations.ClockGroupResult
  intro x s
  dsimp only
  rw [exec_grp4A]
  obtain ⟨haccepts, h⟩ | ⟨haccepts, h⟩ := ctDecode_cases x (s.header x) <;> rw [h]
  · rw [if_pos ((accepts_iff _).mp haccepts)]
    rfl
  · rw [if_neg fun hbounds => Bool.false_ne_true (haccepts.symm.trans ((accepts_iff _).mpr hbounds))]
    rfl

/-! ### The local-time offset (R81, R139) -/

/-- Five bits of magnitude leave the sign bit of six clear. -/
theorem toInt_offset_magnitude (omag : BitVec 5) : (omag.setWidth 6).toInt = omag.toNat := by
  have hmag : omag.toNat < 32 := omag.isLt
  have hwidth : (omag.setWidth 6).toNat = omag.toNat := BitVec.toNat_setWidth_of_le (by decide)
  rw [BitVec.toInt_eq_toNat_of_lt (by omega), hwidth]

theorem toInt_offsetOf (osign : Bit) (omag : BitVec 5) :
    (offsetOf osign omag).toInt = if osign then -(omag.toNat : Int) else (omag.toNat : Int) := by
  have hmag := toInt_offset_magnitude omag
  cases osign with
  | false => exact hmag
  | true =>
    have hleast : omag.setWidth 6 ≠ BitVec.intMin 6 := by
      intro h
      have hnegative : (omag.toNat : Int) = -32 := by rw [← hmag, h]; rfl
      omega
    simp only [offsetOf, if_true]
    rw [BitVec.toInt_neg_of_ne_intMin hleast, hmag]

theorem window_offset (m : Committed) : window m 0x009 = m.clock.offset.signExtend 8 := rfl

/-- Settles O30: no magnitude reaches the least six-bit number, so its negation is exact, and
so is the sign extension. -/
theorem offsetIsSignedHalfHours : Obligations.OffsetIsSignedHalfHours := by
  unfold Obligations.OffsetIsSignedHalfHours
  intro osign omag m hoffset
  refine ⟨?_, ?_⟩
  · rw [hoffset, toInt_offsetOf]
  · rw [window_offset, BitVec.toInt_signExtend_of_le (by decide)]

/-! ### The frame -/

theorem ctDecode_windowSameOutside (x : Payload) (s : State) :
    WindowSameOutside ([0x000, 0x001, 0x002, 0x003] ++ addressRange 0x005 7) s (ctDecode x (s.header x)) := by
  intro a ha
  simp only [List.mem_append, List.mem_cons, List.not_mem_nil, or_false, mem_addressRange] at ha
  rw [ctDecode_committed]
  exact window_congr (fun h => by omega) (fun h => by omega) (fun _ => rfl) (fun h => by omega) (fun _ => rfl)
    (fun _ => rfl) (fun _ => rfl) (fun _ => rfl) (fun _ => rfl) (fun _ => rfl)

theorem ctDecode_of_rejected {x : Payload}
    (h : 24 ≤ (ctFields x).hour.toNat ∨ 60 ≤ (ctFields x).minute.toNat) (s : State) : ctDecode x s = s := by
  obtain ⟨haccepts, -⟩ | ⟨-, heq⟩ := ctDecode_cases x s
  · obtain ⟨hhour, hminute⟩ := (accepts_iff _).mp haccepts
    omega
  · exact heq

/-- Settles O33, from the frame of `ctDecode` and the register that each address shows; a rejected sample leaves the
state after the header commit. -/
theorem clockGroupFrame : Obligations.ClockGroupFrame := by
  unfold Obligations.ClockGroupFrame
  intro x s
  have hcommitted := ctDecode_committed x (s.header x)
  refine ⟨ctDecode x (s.header x), exec_grp4A x s, ?_⟩
  rw [hcommitted, ctDecode_scratch]
  refine ⟨rfl, rfl, rfl, rfl, rfl, rfl, rfl, rfl, ctDecode_sameInterface x (s.header x),
    ctDecode_windowSameOutside x s, fun hrejected => ?_⟩
  rw [← hcommitted, ctDecode_of_rejected hrejected]
  exact ⟨rfl, header_windowSameOutside x s⟩

end Sys2Proof.Machine
end

section
/-! PROOF. Consecutive day counts are consecutive dates (R142, R144). Within a year of R138 the date of the next day is
the next date, month by month; the day numbers step from the last day of such a year to the first of the next, and leave
out the 29 February that a century year does not have. -/

namespace Sys2Proof.Machine

/-! ### The months of a year (R138) -/

/-- `E` of R138: the month of a day of the year; March is month 4 and the February that follows it month 15. -/
def monthIndex (r : Nat) : Nat := r * 10000 / 306001

/-- The days of the year before its month `e`. -/
def monthStart (e : Nat) : Nat := 306001 * e / 10000

/-- The calendar's number of a month. -/
def monthOf (e : Nat) : Nat := if e > 13 then e - 13 else e - 1

/-- The calendar's year of a month of the year `c`: its January and February are of the next one. -/
def yearOf (c e : Nat) : Nat := (c - 4715) - (if monthOf e > 2 then 1 else 0)

theorem dateOf_eq {r e : Nat} (c : Nat) (h : monthIndex r = e) :
    dateOf c r = { year := yearOf c e, month := monthOf e, day := r - monthStart e } := by
  subst h
  rfl

theorem monthIndex_bounds {r : Nat} (hlow : 123 ≤ r) (hhigh : r < 487) : 4 ≤ monthIndex r ∧ monthIndex r ≤ 15 := by
  unfold monthIndex
  omega

/-- A month holds the days after its start, up to the next month's start. -/
theorem monthIndex_eq_iff {r e : Nat} (hlow : 4 ≤ e) (hhigh : e ≤ 15) :
    monthIndex r = e ↔ monthStart e < r ∧ r ≤ monthStart (e + 1) := by
  have hstart : 306001 * e ≠ 10000 * r := by omega
  have hend : 306001 * (e + 1) ≠ 10000 * r := by omega
  unfold monthIndex monthStart
  omega

/-- The months but February have their calendar's length. -/
theorem daysInMonth_monthOf {e : Nat} (y : Nat) (hlow : 4 ≤ e) (hhigh : e ≤ 14) :
    daysInMonth y (monthOf e) = monthStart (e + 1) - monthStart e := by
  interval_cases e <;> rfl

theorem le_daysInMonth_february (y : Nat) : 28 ≤ daysInMonth y 2 := by
  simp only [daysInMonth, if_true]
  split <;> decide

/-- Before the last day of a month, and before 28 February, the calendar's month goes on. -/
theorem day_lt_daysInMonth {r e : Nat} (y : Nat) (hlow : 4 ≤ e) (hhigh : e ≤ 15) (hstart : monthStart e < r)
    (hend : r < monthStart (e + 1)) (hfebruary : r < 487) : r - monthStart e < daysInMonth y (monthOf e) := by
  obtain he14 | rfl : e ≤ 14 ∨ e = 15 := by omega
  · rw [daysInMonth_monthOf y hlow he14]
    omega
  · have hlength : 28 ≤ daysInMonth y (monthOf 15) := le_daysInMonth_february y
    have hstart15 : monthStart 15 = 459 := rfl
    omega

/-- The month after one but February, of the same year or, after December, January of the next. -/
theorem monthOf_succ {c e : Nat} (hc : 4716 ≤ c) (hlow : 4 ≤ e) (hhigh : e ≤ 14) :
    monthOf e < 12 ∧ monthOf (e + 1) = monthOf e + 1 ∧ yearOf c (e + 1) = yearOf c e ∨
    monthOf e = 12 ∧ monthOf (e + 1) = 1 ∧ yearOf c (e + 1) = yearOf c e + 1 := by
  unfold yearOf monthOf
  split_ifs <;> omega

/-! ### The next date (R142) -/

theorem nextDate_of_lt {d : CalendarDate} (h : d.day < daysInMonth d.year d.month) :
    nextDate d = { d with day := d.day + 1 } := if_pos h

theorem nextDate_of_month_end {d : CalendarDate} (h : d.day = daysInMonth d.year d.month) (hmonth : d.month < 12) :
    nextDate d = { year := d.year, month := d.month + 1, day := 1 } := by
  rw [nextDate, if_neg h.not_lt, if_pos hmonth]

theorem nextDate_of_year_end {d : CalendarDate} (h : d.day = daysInMonth d.year d.month) (hmonth : d.month = 12) :
    nextDate d = { year := d.year + 1, month := 1, day := 1 } := by
  rw [nextDate, if_neg h.not_lt, if_neg hmonth.not_lt]

/-- From 1 March to 27 February the next day of the year is the next date. -/
theorem nextDate_dateOf {c r : Nat} (hc : 4716 ≤ c) (hlow : 123 ≤ r) (hhigh : r < 487) :
    nextDate (dateOf c r) = dateOf c (r + 1) := by
  obtain ⟨e, he⟩ : ∃ e, monthIndex r = e := ⟨_, rfl⟩
  obtain ⟨he4, he15⟩ := he ▸ monthIndex_bounds hlow hhigh
  obtain ⟨hstart, hend⟩ := (monthIndex_eq_iff he4 he15).mp he
  rw [dateOf_eq c he]
  obtain hinside | hlast : r < monthStart (e + 1) ∨ r = monthStart (e + 1) := by omega
  · have hnext : monthIndex (r + 1) = e := (monthIndex_eq_iff he4 he15).mpr (by omega)
    have hday := day_lt_daysInMonth (yearOf c e) he4 he15 hstart hinside hhigh
    rw [nextDate_of_lt hday, dateOf_eq c hnext, Nat.sub_add_comm hstart.le]
  · have he14 : e ≤ 14 := by unfold monthStart at hlast; omega
    have hnext : monthIndex (r + 1) = e + 1 :=
      (monthIndex_eq_iff (by omega) (by omega)).mpr (by unfold monthStart at *; omega)
    have hday : r - monthStart e = daysInMonth (yearOf c e) (monthOf e) := by
      rw [daysInMonth_monthOf _ he4 he14, hlast]
    have hfirst : r + 1 - monthStart (e + 1) = 1 := by omega
    rw [dateOf_eq c hnext, hfirst]
    obtain ⟨hmonth, hmonth', hyear'⟩ | ⟨hmonth, hmonth', hyear'⟩ := monthOf_succ hc he4 he14
    · rw [nextDate_of_month_end hday hmonth, hmonth', hyear']
    · rw [nextDate_of_year_end hday hmonth, hmonth', hyear']

/-! ### The end of February (R142) -/

theorem dateOf_february_28 (c : Nat) : dateOf c 487 = { year := c - 4715, month := 2, day := 28 } := by
  rw [dateOf_eq c (e := 15) rfl]
  simp [yearOf, monthOf, monthStart]

theorem dateOf_february_29 (c : Nat) : dateOf c 488 = { year := c - 4715, month := 2, day := 29 } := by
  rw [dateOf_eq c (e := 15) rfl]
  simp [yearOf, monthOf, monthStart]

theorem dateOf_march_1 (c : Nat) : dateOf (c + 1) 123 = { year := c - 4715, month := 3, day := 1 } := by
  have hyear : yearOf (c + 1) 4 = c - 4715 := Nat.sub_right_comm (c + 1) 4715 1
  rw [dateOf_eq (c + 1) (e := 4) rfl, hyear]
  rfl

theorem nextDate_february_28_of_leap {c : Nat} (h : isLeapYear (c - 4715) = true) :
    nextDate (dateOf c 487) = dateOf c 488 := by
  rw [dateOf_february_28, dateOf_february_29, nextDate_of_lt (by simp [daysInMonth, h])]

theorem nextDate_february_28_of_not_leap {c : Nat} (h : isLeapYear (c - 4715) = false) :
    nextDate (dateOf c 487) = dateOf (c + 1) 123 := by
  rw [dateOf_february_28, dateOf_march_1, nextDate_of_month_end (by simp [daysInMonth, h]) (by simp)]

theorem nextDate_february_29 {c : Nat} (h : isLeapYear (c - 4715) = true) :
    nextDate (dateOf c 488) = dateOf (c + 1) 123 := by
  rw [dateOf_february_29, dateOf_march_1, nextDate_of_month_end (by simp [daysInMonth, h]) (by simp)]

/-! ### The next day number (R138) -/

/-- The day numbers before the year `c`, whose days begin with 123. -/
def yearStart (c : Nat) : Nat := 36525 * c / 100

/-- The year `c` has a day `r`: 123 to 487, and 488 in every fourth year. -/
def YearHasDay (c r : Nat) : Prop := 123 ≤ r ∧ (r ≤ 487 ∨ r = 488 ∧ c % 4 = 3)

theorem yearStart_succ (c : Nat) : yearStart (c + 1) = yearStart c + if c % 4 = 3 then 366 else 365 := by
  have hquarter : c % 4 = 0 ∨ c % 4 = 1 ∨ c % 4 = 2 ∨ c % 4 = 3 := by omega
  unfold yearStart
  split <;> omega

theorem yearIndex_of_yearHasDay {c r : Nat} (hr : YearHasDay c r) : yearIndex (yearStart c + r) = c := by
  obtain ⟨hlow, hhigh⟩ := hr
  unfold yearIndex yearStart
  omega

/-- The date of a day count is that of the one day of the one year that its day number is. -/
theorem mjdToYmd_of_dayNumber {n c r : Nat} (hn : dayNumber n = yearStart c + r) (hr : YearHasDay c r) :
    mjdToYmd n = dateOf c r := by
  have hday : yearDay (yearStart c + r) = r := by
    rw [yearDay, yearIndex_of_yearHasDay hr]
    exact Nat.add_sub_cancel_left _ _
  rw [mjdToYmd_eq, hn, yearIndex_of_yearHasDay hr, hday]

/-- Every day count is a day of a year in which the calendar has it too. -/
theorem exists_yearHasDay {n : Nat} (h : n < 131072) :
    ∃ c r, 4716 ≤ c ∧ YearHasDay c r ∧ (r = 488 → isLeapYear (c - 4715) = true) ∧
      dayNumber n = yearStart c + r := by
  have hcases := dayNumber_cases h
  obtain ⟨hlow, hhigh⟩ := yearDay_bounds (b := dayNumber n) (by omega)
  have hfourth := yearIndex_mod_of_yearDay (b := dayNumber n)
  refine ⟨yearIndex (dayNumber n), yearDay (dayNumber n), ?_, ⟨hlow, by omega⟩, isLeapYear_of_yearDay h, ?_⟩
  · unfold yearIndex
    omega
  · unfold yearDay yearIndex yearStart
    omega

/-- The day numbers go up by 1, and by 2 past the 29 February that a century year does not have. -/
theorem dayNumber_succ {n c r : Nat} (h : n < 131071) (hn : dayNumber n = yearStart c + r) (hr : YearHasDay c r) :
    dayNumber (n + 1) =
      dayNumber n + if r = 487 ∧ c % 4 = 3 ∧ isLeapYear (c - 4715) = false then 2 else 1 := by
  have hcases := dayNumber_cases (mjd := n) (by omega)
  have hcases' := dayNumber_cases (mjd := n + 1) (by omega)
  have hyear := yearIndex_of_yearHasDay hr
  rw [← hn, yearIndex] at hyear
  obtain ⟨hlow, hhigh⟩ := hr
  simp only [← Bool.not_eq_true, isLeapYear_iff]
  unfold yearStart at hn
  split <;> omega

/-- The day after a year's last is 1 March. -/
theorem mjdToYmd_of_year_end {n c : Nat} (hn : dayNumber n = yearStart (c + 1) + 123) :
    mjdToYmd n = dateOf (c + 1) 123 :=
  mjdToYmd_of_dayNumber hn ⟨by omega, by omega⟩

theorem mjdToYmd_succ {n : Nat} (h : n < 131071) : mjdToYmd (n + 1) = nextDate (mjdToYmd n) := by
  obtain ⟨c, r, hc, hr, hleap488, hn⟩ := exists_yearHasDay (n := n) (by omega)
  have hsucc := dayNumber_succ h hn hr
  have hyear := yearStart_succ c
  rw [mjdToYmd_of_dayNumber hn hr]
  obtain ⟨hlow, hhigh⟩ := hr
  obtain hinside | rfl | rfl : r < 487 ∨ r = 487 ∨ r = 488 := by omega
  · rw [if_neg (by omega)] at hsucc
    rw [nextDate_dateOf hc hlow hinside]
    exact mjdToYmd_of_dayNumber (by omega) ⟨by omega, by omega⟩
  · cases hleap : isLeapYear (c - 4715) with
    | true =>
      obtain ⟨hfourth, -⟩ := (isLeapYear_iff _).mp hleap
      rw [if_neg (by simp [hleap])] at hsucc
      rw [nextDate_february_28_of_leap hleap]
      exact mjdToYmd_of_dayNumber (by omega) ⟨by omega, by omega⟩
    | false =>
      simp only [hleap, and_true, true_and] at hsucc
      rw [nextDate_february_28_of_not_leap hleap]
      refine mjdToYmd_of_year_end ?_
      split at hsucc <;> split at hyear <;> omega
  · rw [if_neg (by omega)] at hsucc
    rw [if_pos (by omega)] at hyear
    rw [nextDate_february_29 (hleap488 rfl)]
    exact mjdToYmd_of_year_end (by omega)

/-- Settles O31, from the day numbers and their months; the two end dates are computed. -/
theorem consecutiveDayCountsAreConsecutiveDates : Obligations.ConsecutiveDayCountsAreConsecutiveDates := by
  unfold Obligations.ConsecutiveDayCountsAreConsecutiveDates
  exact ⟨by decide, fun n h => mjdToYmd_succ h, by decide⟩

/-! ### The range of the dates (R144) -/

theorem year_le_year_nextDate (d : CalendarDate) : d.year ≤ (nextDate d).year := by
  unfold nextDate
  split_ifs <;> simp

/-- Later day counts are of no earlier year. -/
theorem monotoneOn_year : MonotoneOn (fun n => (mjdToYmd n).year) (Set.Iio 131072) := by
  refine monotoneOn_of_le_add_one Set.ordConnected_Iio fun n _ _ hn => ?_
  have h : n < 131071 := Nat.succ_lt_succ_iff.mp hn
  rw [mjdToYmd_succ h]
  exact year_le_year_nextDate _

theorem mjdToYmd_year_bounds {n : Nat} (h : n < 131072) : 1858 ≤ (mjdToYmd n).year ∧ (mjdToYmd n).year ≤ 2217 := by
  obtain ⟨hfirst, -, hlast⟩ := consecutiveDayCountsAreConsecutiveDates
  have hlow := monotoneOn_year (show 0 < 131072 by decide) h (Nat.zero_le n)
  have hhigh := monotoneOn_year h (show 131071 < 131072 by decide) (Nat.le_of_lt_succ h)
  simp only [hfirst, hlast] at hlow hhigh
  exact ⟨hlow, hhigh⟩

/-- Settles O32: the years lie between those of the first and the last day count. -/
theorem everyDayCountIsAValidDate : Obligations.EveryDayCountIsAValidDate := by
  unfold Obligations.EveryDayCountIsAValidDate
  intro n h
  obtain ⟨hfirst, hlast⟩ := mjdToYmd_year_bounds h
  obtain ⟨-, hmonth, -, hdays⟩ := (CalendarDate.wf_iff _).mp (mjdToYmd_wf h)
  have hday := hdays.trans (daysInMonth_le _ _)
  refine ⟨mjdToYmd_wf h, hfirst, hlast, ?_, ?_, ?_⟩ <;> rw [BitVec.toNat_ofNat] <;> omega

end Sys2Proof.Machine
end

section
/-! PROOF. The RT+ row (R150 to R158), of whichever pair the configuration makes it: what Title and Artist hold after
one tag and after both, the frame, and extraction before any radiotext. -/

namespace Sys2Proof.Machine

/-- Settles O34: a row whose running flag is 0 stops after its header. -/
theorem rtPlusNotRunningCommitsOnlyTheHeader : Obligations.RtPlusNotRunningCommitsOnlyTheHeader := by
  unfold Obligations.RtPlusNotRunningCommitsOnlyTheHeader
  intro r hr x s _ hstopped
  rw [exec_of_mem_openRows x s r hr,
    openPair_of_not_running fun hrun => Bool.false_ne_true (hstopped.symm.trans hrun.2)]
  rfl

/-! ### Title and Artist after one tag (R153, R154) -/

theorem byteAt_tagSpan (m : Committed) (t : Tag) {i : Nat} (h : i < 64) : byteAt (tagSpan m t) i = spanByte m t i :=
  byteAt_span _ _ _ i h

theorem commitDerived_title (t : Tag) (s : State) : (commitDerived t s).committed.title =
    if t.ctype = s.cfg.ctTitle then tagSpan s.committed t else s.committed.title := by
  obtain ⟨htitle, h⟩ | ⟨htitle, -, h⟩ | ⟨htitle, -, h⟩ := commitDerived_cases t s <;> rw [h]
  · rw [if_pos htitle, State.commitTitle_title]
  · rw [if_neg htitle, State.commitArtist_title]
  · rw [if_neg htitle]

/-- The Title code is tested first, so a tag of that code leaves Artist alone even where the two codes are one. -/
theorem commitDerived_artist (t : Tag) (s : State) : (commitDerived t s).committed.artist =
    if t.ctype ≠ s.cfg.ctTitle ∧ t.ctype = s.cfg.ctArtist then tagSpan s.committed t else s.committed.artist := by
  obtain ⟨htitle, h⟩ | ⟨htitle, hartist, h⟩ | ⟨-, hartist, h⟩ := commitDerived_cases t s <;> rw [h]
  · rw [if_neg fun hcodes => hcodes.1 htitle, State.commitTitle_artist]
  · rw [if_pos ⟨htitle, hartist⟩, State.commitArtist_artist]
  · rw [if_neg fun hcodes => hartist hcodes.2]

theorem processTag0_title (t : Tag) (s : State) : (processTag0 t s).committed.title =
    if inBounds t ∧ t.ctype = s.cfg.ctTitle then tagSpan s.committed t else s.committed.title := by
  rw [processTag0, ite_and]
  split
  · exact commitDerived_title t (s.commitTag0 t)
  · rfl

theorem processTag0_artist (t : Tag) (s : State) : (processTag0 t s).committed.artist =
    if inBounds t ∧ t.ctype ≠ s.cfg.ctTitle ∧ t.ctype = s.cfg.ctArtist then tagSpan s.committed t
    else s.committed.artist := by
  rw [processTag0, ite_and]
  split
  · exact commitDerived_artist t (s.commitTag0 t)
  · rfl

theorem processTag1_title (t : Tag) (s : State) : (processTag1 t s).committed.title =
    if inBounds t ∧ t.ctype = s.cfg.ctTitle then tagSpan s.committed t else s.committed.title := by
  rw [processTag1, ite_and]
  split
  · exact commitDerived_title t (s.commitTag1 t)
  · rfl

theorem processTag1_artist (t : Tag) (s : State) : (processTag1 t s).committed.artist =
    if inBounds t ∧ t.ctype ≠ s.cfg.ctTitle ∧ t.ctype = s.cfg.ctArtist then tagSpan s.committed t
    else s.committed.artist := by
  rw [processTag1, ite_and]
  split
  · exact commitDerived_artist t (s.commitTag1 t)
  · rfl

/-! ### After both tags (R152 to R155) -/

theorem processTag0_cfg (t : Tag) (s : State) : (processTag0 t s).cfg = s.cfg := by
  obtain ⟨-, -, -, hcfg⟩ := (State.withInterface_eq_self_iff _ s).mp (processTag0_withInterface (d := s) rfl t).symm
  exact hcfg

/-- Tag 1 copies from the radiotext that tag 0 found: tag 0 does not write it. -/
theorem tagSpan_processTag0 (t u : Tag) (s : State) :
    tagSpan (processTag0 t s).committed u = tagSpan s.committed u := by
  rw [processTag0_committed]
  rfl

theorem openPair_of_running {type : BitVec 4} {version : Bit} {x : Payload} {s : State}
    (hrtp : s.cfg.isRtp type version = true) (hrunning : x.gs.getLsbD 4 = true) :
    openPair type version x s = processTag1 (rtpFields x).tag1 (processTag0 (rtpFields x).tag0 (s.header x)) :=
  calc openPair type version x s
      = rtpDecode x (s.header x) := if_pos hrtp
    _ = processTag1 (rtpFields x).tag1 (processTag0 (rtpFields x).tag0 (s.header x)) := if_pos hrunning

/-- Settles O35: tag 1 is processed last, so where both tags name one array its span is the one that stays. -/
theorem rtPlusRunningResult : Obligations.RtPlusRunningResult := by
  unfold Obligations.RtPlusRunningResult
  intro r hr x s hrtp hrunning
  dsimp only
  refine ⟨_, exec_of_mem_openRows x s r hr, ?_⟩
  rw [openPair_of_running hrtp hrunning]
  refine ⟨?header, ?tag0, ?tag1, fun i hi => ?title, fun i hi => ?artist⟩
  case header => rw [processTag1_committed, processTag0_committed, header_committed]
  case tag0 | tag1 =>
    rw [processTag1_committed, processTag0_committed, header_committed]
    simp only [inBounds, decide_eq_true_eq]
  case title | artist =>
    simp only [processTag1_title, processTag1_artist, processTag0_title, processTag0_artist, processTag0_cfg,
      tagSpan_processTag0, apply_ite (byteAt · i), byteAt_tagSpan _ _ hi, inBounds, decide_eq_true_eq]
    rfl

/-! ### The frame -/

theorem openPair_windowSameOutside (type : BitVec 4) (version : Bit) (x : Payload) (s : State) :
    WindowSameOutside ([0x000, 0x001, 0x002, 0x003, 0x00C, 0x00D, 0x00E, 0x010, 0x011, 0x012] ++
      addressRange 0x0C0 128) s (openPair type version x s) := by
  intro a ha
  simp only [List.mem_append, List.mem_cons, List.not_mem_nil, or_false, mem_addressRange] at ha
  rw [openPair_committed]
  exact window_congr (fun h => by omega) (fun h => by omega) (fun _ => rfl) (fun _ => rfl) (fun h => by omega)
    (fun h => by omega) (fun _ => rfl) (fun _ => rfl) (fun h => by omega) (fun h => by omega)

/-- Bit 0 of FLAGS alone is the header's (R51). -/
theorem flagsByte_getLsbD_of_one_le {m n : Committed} (hflags : m.flags = n.flags) (hname : m.name = n.name)
    (htext : m.text = n.text) (hclock : m.clock = n.clock) {i : Nat} (hi : 1 ≤ i) :
    (flagsByte m).getLsbD i = (flagsByte n).getLsbD i := by
  have hzero : i ≠ 0 := Nat.one_le_iff_ne_zero.mp hi
  simp only [flagsByte, BitVec.getLsbD_append, hflags, hname, htext, hclock]
  simp [hzero]

/-- Settles O36, from the frame of an open row and the register that each address shows. -/
theorem rtPlusFrame : Obligations.RtPlusFrame := by
  unfold Obligations.RtPlusFrame
  intro r hr x s _
  have hcommitted := openPair_committed r.1 r.2.1 x s
  refine ⟨openPair r.1 r.2.1 x s, exec_of_mem_openRows x s r hr, ?_⟩
  rw [window_flags, window_flags, hcommitted, openPair_scratch]
  exact ⟨rfl, rfl, rfl, rfl, rfl, openPair_sameInterface _ _ x s, openPair_windowSameOutside _ _ x s,
    fun i hi => flagsByte_getLsbD_of_one_le (by rfl) (by rfl) (by rfl) (by rfl) hi⟩

/-! ### Before any radiotext (R158) -/

/-- A string of the window is empty where its first byte is 0x00 (R15). -/
theorem str_memRead_eq_nil_iff (m : Committed) (base n : Nat) :
    str (memRead m base (n + 1)) = [] ↔ window m (BitVec.ofNat 9 base) = 0x00 := by
  simp [str, memRead, List.range_succ_eq_map]

theorem titleOf_eq_nil_iff (m : Committed) : titleOf m = [] ↔ byteAt m.title 0 = 0x00 :=
  str_memRead_eq_nil_iff m 0x0C0 63

theorem artistOf_eq_nil_iff (m : Committed) : artistOf m = [] ↔ byteAt m.artist 0 = 0x00 :=
  str_memRead_eq_nil_iff m 0x100 63

theorem spanByte_of_no_text {m : Committed} (h : ∀ i, byteAt (m.text.bank m.text.flag) i = 0x00) (t : Tag) (i : Nat) :
    spanByte m t i = 0x00 := by
  unfold spanByte
  split
  · exact h _
  · rfl

/-- Settles O37: the first byte of Title and of Artist is 0x00 in each case of O35, and a group that is not running
leaves them as they are. -/
theorem extractionBeforeAnyTextIsEmpty : Obligations.ExtractionBeforeAnyTextIsEmpty := by
  unfold Obligations.ExtractionBeforeAnyTextIsEmpty
  intro r hr x s hrtp hnotext htitle hartist
  cases hrunning : x.gs.getLsbD 4 with
  | false => exact ⟨_, rtPlusNotRunningCommitsOnlyTheHeader r hr x s hrtp hrunning, htitle, hartist⟩
  | true =>
    rw [titleOf_eq_nil_iff] at htitle
    rw [artistOf_eq_nil_iff] at hartist
    obtain ⟨t, hexec, -, -, -, hnewTitle, hnewArtist⟩ := rtPlusRunningResult r hr x s hrtp hrunning
    refine ⟨t, hexec, (titleOf_eq_nil_iff _).mpr ?_, (artistOf_eq_nil_iff _).mpr ?_⟩
    · rw [hnewTitle 0 (by decide)]
      simp only [spanByte_of_no_text hnotext, htitle, ite_self]
    · rw [hnewArtist 0 (by decide)]
      simp only [spanByte_of_no_text hnotext, hartist, ite_self]

end Sys2Proof.Machine
end

section
/-! PROOF. The control operations and the accessors (R165 to R170): RESET, IDLE, an idle host, and what the accessors
read from the window. -/

namespace Sys2Proof.Machine

/-! ### RESET (R165) -/

theorem exec_reset (discarded : Option RdsGroup) (s : State) : exec (.reset discarded) s = .next s.clearAll := rfl

/-- Settles O2: RESET leaves `Committed.zero` and `Scratch.zero`, whose window bytes are all 0x00. -/
theorem resetClearsEveryRegister : Obligations.ResetClearsEveryRegister := by
  unfold Obligations.ResetClearsEveryRegister
  refine ⟨fun ready g => ⟨rfl, rfl⟩, fun discarded s => ?_, fun discarded => ?_⟩
  · exact ⟨s.clearAll, exec_reset discarded s, committedZero_zero, scratchZero_zero, rfl, rfl, rfl, rfl, window_zero⟩
  · exact exec_reset discarded State.reset

/-! ### IDLE and an idle host (R169, R170) -/

theorem exec_idle (waiting : Option RdsGroup) (s : State) : exec (.idle waiting) s = .next s := rfl

/-- Settles O38: IDLE answers the state it is given. -/
theorem idleChangesNothing : Obligations.IdleChangesNothing := by
  unfold Obligations.IdleChangesNothing
  exact exec_idle

/-- With no APPLY in progress, an edge that requests nothing changes nothing, whatever latency it carries: there is no
group to take. -/
theorem clockEdge_of_requestsNothing {e : Edge} {s : State} (hnothing : (Input.edge e).requestsNothing = true)
    (hidle : s.inFlight = none) : clockEdge e s = .next s := by
  obtain ⟨⟨hrst, hsoft⟩, hvalid⟩ : (e.rstN = true ∧ e.softReset = false) ∧ e.grpValid = false := by
    simpa [Input.requestsNothing] using hnothing
  obtain ⟨hquiet, -⟩ := ctrlValuesDecode e s hrst
  have hinstr : instrAt e s = .idle none := hquiet hsoft hvalid
  calc clockEdge e s
      = runThenAdvance (.idle none) s := by simp [clockEdge, hrst, hinstr]
    _ = exec (.idle none) s := runThenAdvance_of_idle hidle _
    _ = .next s := exec_idle none s

/-- An idle block's step at an input that requests nothing takes the input and moves `rd_addr` at most. -/
theorem step_of_requestsNothing {s : State} {i : Input} {rest : List Input} (hwf : s.cfg.wf = true)
    (hidle : s.inFlight = none) (hin : s.inputs = i :: rest) (hnothing : i.requestsNothing = true) :
    ∃ addr, step s = .next ((s.withInputs rest).setRdAddr addr) := by
  cases i with
  | edge e =>
    exact ⟨s.rdAddr, step_of_edge hwf hin (clockEdge_of_requestsNothing (s := s.withInputs rest) hnothing hidle)⟩
  | read addr => exact ⟨addr, (step_of_read hwf hin).trans (exec_read addr _)⟩

/-- Any number of inputs that request nothing leave the block idle, all taken, with `rd_addr` moved at most. -/
theorem run_of_requestsNothing {s : State} {is : List Input} (hwf : s.cfg.wf = true) (hidle : s.inFlight = none)
    (hin : s.inputs = is) (hnothing : ∀ i ∈ is, i.requestsNothing = true) :
    ∃ addr, Sys2Proof.core.run is.length s = .next ((s.withInputs []).setRdAddr addr) := by
  induction is generalizing s with
  | nil =>
    have hsame : (s.withInputs []).setRdAddr s.rdAddr = s := by
      rw [State.withInputs, ← hin]
      rfl
    exact ⟨s.rdAddr, congrArg Host.Outcome.next hsame.symm⟩
  | cons i rest ih =>
    obtain ⟨hfirst, hrest⟩ := List.forall_mem_cons.mp hnothing
    obtain ⟨addr, hstep⟩ := step_of_requestsNothing hwf hidle hin hfirst
    rw [List.length_cons, run_succ_of_step _ hstep]
    exact ih (s := (s.withInputs rest).setRdAddr addr) hwf hidle rfl hrest

/-- Settles O47: the run leaves every register, and only `rd_addr` and the host's inputs differ. -/
theorem committedDataDoesNotExpire : Obligations.CommittedDataDoesNotExpire := by
  unfold Obligations.CommittedDataDoesNotExpire
  intro s hwf hidle hnothing
  obtain ⟨addr, hrun⟩ := run_of_requestsNothing hwf hidle rfl hnothing
  exact ⟨_, hrun, rfl, rfl, hidle, rfl⟩

/-! ### The read accessors (R168) -/

/-- A multi-byte read of the addresses that show an array gives the array. -/
theorem memRead_eq_toList {m : Committed} {base n : Nat} {v : Vector Byte n}
    (h : ∀ i, i < n → window m (BitVec.ofNat 9 (base + i)) = byteAt v i) : memRead m base n = v.toList := by
  refine List.ext_getElem (by simp [memRead]) fun i hi _ => ?_
  have hin : i < n := by simpa [memRead] using hi
  simp [memRead, h i hin, byteAt, hin]

/-- A word shown as two bytes is its high byte and then its low byte. -/
theorem highByte_append_lowByte (w : Word) : w.extractLsb' 8 8 ++ w.extractLsb' 0 8 = w :=
  (BitVec.extractLsb'_append_extractLsb'_eq_extractLsb' (start₁ := 0) (len₁ := 8) rfl).trans BitVec.extractLsb'_eq_self

/-- A register of at most 8 bits is read back whole from the byte that shows it. -/
theorem setWidth_setWidth_byte {w : Nat} (hw : w ≤ 8) (r : BitVec w) : (r.setWidth 8).setWidth w = r := by
  rw [BitVec.setWidth_setWidth_of_le r hw, BitVec.setWidth_eq]

theorem stationId_eq (m : Committed) : stationId m = m.header.pi := highByte_append_lowByte m.header.pi

theorem programType_eq (m : Committed) : programType m = m.header.pty := setWidth_setWidth_byte (by decide) m.header.pty

theorem decoderId_eq (m : Committed) : decoderId m = m.name.di := setWidth_setWidth_byte (by decide) m.name.di

/-- A tag is read back whole from the three bytes that show it. -/
theorem tag_of_bytes (t : Tag) :
    ({ ctype := (t.ctype.setWidth 8).setWidth 6, start := (t.start.setWidth 8).setWidth 6,
       len := (t.len.setWidth 8).setWidth 6 } : Tag) = t := by
  simp only [setWidth_setWidth_byte (show 6 ≤ 8 by decide)]

theorem tagReading0_eq (m : Committed) : tagReading0 m = m.tag0 := tag_of_bytes m.tag0

theorem tagReading1_eq (m : Committed) : tagReading1 m = m.tag1 := tag_of_bytes m.tag1

/-- The clock time as the registers have it, given out whether or not it is valid. -/
def ClockTime.reading (t : ClockTime) : ClockReading :=
  { year := t.year.toNat, month := t.month.toNat, day := t.day.toNat, hour := t.hour.toNat,
    minute := t.minute.toNat, offset := t.offset.toInt }

/-- The bytes that show the clock time give its registers; the offset's byte is sign-extended and keeps its value
(R81). -/
theorem clockReading_eq (m : Committed) :
    clockReading m = if m.clock.valid then some m.clock.reading else none := by
  obtain ⟨-, -, -, -, -, -, -, hvalid⟩ := flagsByteBits m
  obtain ⟨-, -, -, -, -, hmonth, hday, hhour, hminute, hoffset, hyearLow, hyearHigh, -⟩ := readWindowMap m
  rw [clockReading, flagBit, hvalid, hyearHigh, hyearLow, highByte_append_lowByte, hmonth, hday, hhour, hminute,
    hoffset, ClockTime.reading]
  simp (disch := decide) only [BitVec.toNat_setWidth_of_le, BitVec.toInt_signExtend_of_le]

/-- Settles O8: each accessor reads the bytes that show its register, and its valid bit from FLAGS. -/
theorem accessorsReportTheRegisters : Obligations.AccessorsReportTheRegisters := by
  unfold Obligations.AccessorsReportTheRegisters
  intro m
  obtain ⟨htp, hta, hms, hname, htext0, htext1, hflag, -⟩ := flagsByteBits m
  obtain ⟨-, -, -, -, -, -, -, -, -, -, -, -, -, -, -, -, -, -, hps, hrt0, hrt1, htitle, hartist, -⟩ := readWindowMap m
  refine ⟨stationId_eq m, programType_eq m, decoderId_eq m, htp, hta, hms, hflag, tagReading0_eq m, tagReading1_eq m,
    ?name, fun f => ?text, clockReading_eq m, congrArg str (memRead_eq_toList htitle),
    congrArg str (memRead_eq_toList hartist)⟩
  case name => rw [stationName, flagBit, hname, memRead_eq_toList hps]
  case text =>
    cases f with
    | false =>
      simp only [radioTextOf, flagBit, htext0, memRead_eq_toList hrt0]
      rfl
    | true =>
      simp only [radioTextOf, flagBit, htext1, memRead_eq_toList hrt1]
      rfl

end Sys2Proof.Machine
end

section
/-! PROOF. No operation faults and none is refused. -/

namespace Sys2Proof.Machine

/-- Settles O48: it is `exec_completes`, the case split over the arms of the dispatch. -/
theorem everyInstructionCompletes : Obligations.EveryInstructionCompletes := by
  unfold Obligations.EveryInstructionCompletes
  exact exec_completes

end Sys2Proof.Machine
end
